-- ==== Sys2Proof/Word.lean ====
section
/-! DEFINITION. The two widths of the machine: a byte is 8 bits, a word is 16 bits (00_scope.md R1). -/

namespace Sys2Proof

/-- A byte: 8 bits, bit 0 the least significant (00_scope.md R1). -/
abbrev Byte := BitVec 8

/-- A word: 16 bits, bit 0 the least significant (00_scope.md R1). Registers IX, IY, SP, PC and every
address are words (00_scope.md section 4). -/
abbrev Word := BitVec 16

end Sys2Proof
end

