-- ==== Sys2Proof/Machine/Bits.lean ====
section
/-! DEFINITION. Halves, joins and extensions of bytes and words (00_scope.md R1). -/

namespace Sys2Proof.Machine

/-- `h : l`, `h` the more significant byte (00_scope.md R1). -/
def join (h l : Byte) : Word := h ++ l

/-- Bits 15 to 8 of a word. -/
def hi (w : Word) : Byte := w.extractLsb' 8 8

/-- Bits 7 to 0 of a word. -/
def lo (w : Word) : Byte := w.extractLsb' 0 8

/-- `zext_16(b)`: eight zero bits in front of `b` (00_scope.md R1). -/
def zext16 (b : Byte) : Word := b.setWidth 16

/-- `sext_16(b)`: eight copies of bit 7 in front of `b` (00_scope.md R1). -/
def sext16 (b : Byte) : Word := b.signExtend 16

/-- A bit as a number, 0 or 1. -/
def bitNat (c : Bool) : Nat := if c then 1 else 0

end Sys2Proof.Machine
end

