-- ==== Sys2Proof/Machine/Ccr.lean ====
section
/-! DEFINITION. The condition code register (10_state.md R27 to R35). -/

namespace Sys2Proof.Machine

/-- The eight bits of CCR, from bit 7 down to bit 0 (10_state.md R27; log entry 21). -/
@[ext]
structure Ccr where
  /-- Stop disable, bit 7 (R35). -/
  s : Bool
  /-- XIRQ mask, bit 6 (R34). -/
  x : Bool
  /-- Half carry, bit 5 (R33). -/
  h : Bool
  /-- Interrupt mask, bit 4 (R32). -/
  i : Bool
  /-- Negative, bit 3 (R31). -/
  n : Bool
  /-- Zero, bit 2 (R30). -/
  z : Bool
  /-- Overflow, bit 1 (R29). -/
  v : Bool
  /-- Carry, bit 0 (R28). -/
  c : Bool
deriving DecidableEq, Repr

/-- CCR as a byte: `S : X : H : I : N : Z : V : C` (44_transfer.md R333). -/
def Ccr.toByte (f : Ccr) : Byte :=
  BitVec.ofNat 8 (128 * bitNat f.s + 64 * bitNat f.x + 32 * bitNat f.h + 16 * bitNat f.i
    + 8 * bitNat f.n + 4 * bitNat f.z + 2 * bitNat f.v + bitNat f.c)

/-- What TAP and RTI leave in CCR when they write the byte `w`: every bit takes its bit of `w`, but X, which
becomes the AND of its old value and bit 6 (10_state.md R34; 44_transfer.md R332; 47_interrupt_special.md R400). -/
def Ccr.load (f : Ccr) (w : Byte) : Ccr :=
  { s := w.getLsbD 7
    x := f.x && w.getLsbD 6
    h := w.getLsbD 5
    i := w.getLsbD 4
    n := w.getLsbD 3
    z := w.getLsbD 2
    v := w.getLsbD 1
    c := w.getLsbD 0 }

end Sys2Proof.Machine
end

