-- ==== Sys2Proof/Config.lean ====
section
/-! DEFINITION. What the platform and the implementation fix around the CPU (00_scope.md section 4), and the
free values the spec leaves open. A constant declared opaque has no body: nothing evaluates it, so whatever is
proved holds for every value of it. -/

namespace Sys2Proof

/-- What stands at an address (20_memory.md R69). -/
inductive MemKind where
  /-- Reads return the last value written, writes store. -/
  | ram
  /-- Reads return a fixed byte, writes are ignored. -/
  | rom
  /-- Device-defined. -/
  | io
  /-- Writes are ignored, a read returns an unspecified byte. -/
  | unmapped
deriving DecidableEq, Repr, Inhabited

/-- One entry of the parameter `MemMap`: the `size` addresses from `base` on are of kind `kind`
(20_memory.md R69). -/
structure Region where
  base : Nat
  size : Nat
  kind : MemKind
deriving DecidableEq, Repr, Inhabited

/-- The maskable request lines of the vector table (60_exceptions.md R421, rows masked by I). Only `irq`, the
external pin, is described by the spec; the others are names that a platform with such a device may raise. -/
inductive IrqLine where
  | irq
  | realTime
  | inputCapture1
  | inputCapture2
  | inputCapture3
  | outputCompare1
  | outputCompare2
  | outputCompare3
  | outputCompare4
  | inputCapture4OutputCompare5
  | timerOverflow
  | pulseOverflow
  | pulseEdge
  | spi
  | sci
deriving DecidableEq, Repr, Inhabited

/-- The requests asserted and not yet serviced: XIRQ and the maskable lines (10_state.md R39). -/
structure Pending where
  xirq : Bool
  irqs : List IrqLine
deriving DecidableEq, Repr, Inhabited

/-- The resets requested, one bit each (60_exceptions.md R420, R425; log entry 3). -/
structure ResetRequests where
  pin : Bool
  clockMonitor : Bool
  cop : Bool
deriving DecidableEq, Repr, Inhabited

/-- What a device may look at when one of its addresses is accessed: the code of the devices' internal state, the
contents of memory, the requests and the requested resets. It sees no CPU register (log entry 6). -/
structure DeviceView where
  code : Nat
  mem : List Host.Cell
  pending : Pending
  resets : ResetRequests
deriving DecidableEq, Repr, Inhabited

/-- What an access to a device's address does besides answering: the new code of the devices' internal state, the
requests and the requested resets after it, and the bytes the devices store to memory, in order (20_memory.md R67:
"any effect the device defines"; log entry 6). -/
structure DeviceEffect where
  code : Nat
  pending : Pending
  resets : ResetRequests
  stores : List (Word × Byte)
deriving DecidableEq, Repr, Inhabited

/-- Which return address an illegal-opcode trap stacks: the address of the first byte of the offending
instruction, or the address after its opcode byte (60_exceptions.md R427). -/
inductive StackedPc where
  | first
  | next
deriving DecidableEq, Repr, Inhabited

namespace Config

/-- Free bit number `k` (DESIGN CHOICE of form, log entry 13): V and C after DAA and the flags a reset leaves
unspecified (93_implementation_defined.md U1, U3). -/
opaque freeBit : Nat → Bool

/-- Free byte number `k` (log entry 13): a read of an Unmapped address, A after DAA outside BCD sums, A and B
after a reset taken during a run (93_implementation_defined.md U1, U3, U6). -/
opaque freeByte : Nat → Byte

/-- Free word number `k` (log entry 13): D after a failed division, IX, IY and SP after a reset taken during a
run (93_implementation_defined.md U1, U4). -/
opaque freeWord : Nat → Word

/-- The parameter `ILLOP_STACKED_PC`, OPEN in the spec (92_eei_decisions.md D10, log entry 8). -/
opaque illopStackedPc : StackedPc

/-- The byte a device answers to a read of an IO address (20_memory.md R67, R69; log entry 6). -/
opaque deviceRead : DeviceView → Word → Byte

/-- The effect of a read of an IO address (20_memory.md R67; log entry 6). -/
opaque deviceAfterRead : DeviceView → Word → DeviceEffect

/-- The effect of a write of a byte to an IO address (20_memory.md R67; log entry 6). -/
opaque deviceAfterWrite : DeviceView → Word → Byte → DeviceEffect

end Config
end Sys2Proof
end

