-- ==== Sys2Proof/Machine/Memory.lean ====
section
/-! DEFINITION. Memory as plain data: the 65 536-byte address space (20_memory.md R60) as a sparse list in one
canonical form, and the memory map as a list of regions (R69). -/

namespace Sys2Proof.Machine

/-- The contents of the address space: (address, byte) pairs, addresses strictly rising, no entry equal to what
an unlisted address reads as (20_memory.md R60; log entry 1). -/
abbrev Memory := List Host.Cell

/-- What an address that the list does not hold reads as (DESIGN CHOICE, log entry 1: the spec leaves RAM at
power-on unspecified, 10_state.md R41). -/
def Memory.unlisted : Byte := 0#8

/-- The byte at an address. -/
def Memory.read : Memory → Nat → Byte
  | [], _ => Memory.unlisted
  | (k, v) :: rest, a => if k = a then v else Memory.read rest a

/-- Store a byte, keeping the canonical form. -/
def Memory.write : Memory → Nat → Byte → Memory
  | [], a, v => if v = Memory.unlisted then [] else [(a, v)]
  | (k, w) :: rest, a, v =>
    if a < k then
      if v = Memory.unlisted then (k, w) :: rest else (a, v) :: (k, w) :: rest
    else if a = k then
      if v = Memory.unlisted then rest else (a, v) :: rest
    else (k, w) :: Memory.write rest a v

/-- The canonical form from address `low` on: addresses at least `low`, strictly rising and below 65 536, no
entry equal to `unlisted`. -/
def Memory.wfFrom : Nat → Memory → Bool
  | _, [] => true
  | low, (k, v) :: rest =>
    decide (low ≤ k) && decide (k < 65536) && decide (v ≠ Memory.unlisted) && Memory.wfFrom (k + 1) rest

/-- The canonical form. -/
def Memory.wf (m : Memory) : Bool := Memory.wfFrom 0 m

/-- The byte at a machine address, whatever kind of memory stands there. -/
def Memory.byteAt (m : Memory) (a : Word) : Byte := m.read a.toNat

/-- The word at a machine address, the byte at the lower address the more significant (20_memory.md R62), the
second address modulo 2^16 (R61). -/
def Memory.wordAt (m : Memory) (a : Word) : Word := join (m.byteAt a) (m.byteAt (a + 1#16))

/-- Store bytes at consecutive addresses, modulo 2^16. -/
def Memory.load : Memory → Word → List Byte → Memory
  | m, _, [] => m
  | m, a, b :: rest => Memory.load (m.write a.toNat b) (a + 1#16) rest

/-- Whether a region holds an address. -/
def Region.holds (r : Region) (a : Word) : Bool := decide (r.base ≤ a.toNat) && decide (a.toNat < r.base + r.size)

/-- What stands at an address: the first region that holds it decides, an address in no region is RAM
(20_memory.md R69; DESIGN CHOICE, log entry 4). -/
def kindAt : List Region → Word → MemKind
  | [], _ => .ram
  | r :: rest, a => if Region.holds r a then r.kind else kindAt rest a

end Sys2Proof.Machine
end

