-- ==== Sys2Proof/Machine/Vectors.lean ====
section
/-! DEFINITION. Trap kinds, resets and the vector table (60_exceptions.md R420, R421). -/

namespace Sys2Proof.Machine

/-- The traps that stack a frame (60_exceptions.md R420, R424). -/
inductive Trap where
  | illegalOpcode
  | swi
  | xirq
  | irq (l : IrqLine)
deriving DecidableEq, Repr

/-- The resets, which stack nothing (60_exceptions.md R420, R439). -/
inductive ResetKind where
  | pin
  | clockMonitor
  | cop
deriving DecidableEq, Repr

/-- The vector address of a maskable line (60_exceptions.md R421; log entry 10). -/
def irqVector : IrqLine → Word
  | .irq => 0xFFF2#16
  | .realTime => 0xFFF0#16
  | .inputCapture1 => 0xFFEE#16
  | .inputCapture2 => 0xFFEC#16
  | .inputCapture3 => 0xFFEA#16
  | .outputCompare1 => 0xFFE8#16
  | .outputCompare2 => 0xFFE6#16
  | .outputCompare3 => 0xFFE4#16
  | .outputCompare4 => 0xFFE2#16
  | .inputCapture4OutputCompare5 => 0xFFE0#16
  | .timerOverflow => 0xFFDE#16
  | .pulseOverflow => 0xFFDC#16
  | .pulseEdge => 0xFFDA#16
  | .spi => 0xFFD8#16
  | .sci => 0xFFD6#16

/-- `VEC` of a trap (60_exceptions.md R421; log entry 10). -/
def vector : Trap → Word
  | .illegalOpcode => 0xFFF8#16
  | .swi => 0xFFF6#16
  | .xirq => 0xFFF4#16
  | .irq l => irqVector l

/-- `VEC` of a reset (60_exceptions.md R421, R439). -/
def resetVector : ResetKind → Word
  | .pin => 0xFFFE#16
  | .clockMonitor => 0xFFFC#16
  | .cop => 0xFFFA#16

/-- The default order of the maskable lines: the highest vector address first (60_exceptions.md R425). -/
def defaultIrqLines : List IrqLine :=
  [.irq, .realTime, .inputCapture1, .inputCapture2, .inputCapture3,
   .outputCompare1, .outputCompare2, .outputCompare3, .outputCompare4, .inputCapture4OutputCompare5,
   .timerOverflow, .pulseOverflow, .pulseEdge, .spi, .sci]

end Sys2Proof.Machine
end

