-- ==== Sys2Proof/Machine/State.lean ====
section
/-! DEFINITION. The state of the machine, all of it plain data; its field updates; the reset state; the faults
and refusals (none of which a modelled instruction answers). -/

namespace Sys2Proof.Machine

/-- What the CPU is doing (10_state.md R38). -/
inductive RunState where
  /-- Executes instructions. -/
  | run
  /-- Entered by WAI: the frame is stacked, nothing executes (47_interrupt_special.md R402). -/
  | wait
  /-- Entered by STOP when S = 0: nothing executes (R403). -/
  | stop
  /-- Entered by TEST in test mode: left only by reset (R404). -/
  | testHang
deriving DecidableEq, Repr

/-- The whole state (10_state.md; INVENTORY.md lists each field with its rule and reset value). -/
@[ext]
structure State where
  /-- Accumulator A (10_state.md R20). -/
  a : Byte
  /-- Accumulator B (R21). -/
  b : Byte
  /-- Index register IX (R23). -/
  ix : Word
  /-- Index register IY (R24). -/
  iy : Word
  /-- Stack pointer, the address of the next free byte (R25). -/
  sp : Word
  /-- Program counter (R26). -/
  pc : Word
  /-- Condition code register (R27 to R35). -/
  ccr : Ccr
  /-- What the CPU is doing (R38). -/
  runState : RunState
  /-- Requests asserted and not yet serviced (R39). -/
  pending : Pending
  /-- The boundary after an instruction that cleared I is still to be skipped (R40). -/
  irqInhibit : Bool
  /-- In STOP: XIRQ has been asserted at every look since STOP was entered, so that its level is no edge
  (92_eei_decisions.md D15; log entry 24). Looked at in STOP only. -/
  xirqHeld : Bool
  /-- Resets requested by the platform or by a device (60_exceptions.md R423, R425). -/
  resets : ResetRequests
  /-- The contents of the address space (R41). -/
  mem : Memory
  /-- The parameter `MemMap` (20_memory.md R69); no step writes it. -/
  memMap : List Region
  /-- The parameter `IrqLines`, highest priority first (60_exceptions.md R425); no step writes it. -/
  irqLines : List IrqLine
  /-- The parameter `TEST_MODE` (47_interrupt_special.md R404); no step writes it. -/
  testMode : Bool
  /-- The MODEL's own: the code of the internal state of the devices behind IO addresses (log entry 6). -/
  device : Nat
  /-- The MODEL's own: how many free values have been drawn (log entry 13). -/
  draws : Nat
deriving DecidableEq, Repr

/-- The machine has no fault: an access to any address completes (20_memory.md R69) and every exception is a
trap that goes on (60_exceptions.md R420). The type is empty, so that no step can answer a fault. -/
inductive Fault where
deriving DecidableEq, Repr

/-- Why a step is refused. -/
inductive Refusal where
  /-- Raised by an arm of `exec` whose instruction has no meaning yet. Safe: the run ends. No arm raises it. -/
  | notModelled (mnemonic : String)
deriving DecidableEq, Repr

/-- What a step answers. -/
abbrev Result := Host.Outcome State Fault Refusal

/-- The state with a new `a`. -/
def State.setA (s : State) (v : Byte) : State := { s with a := v }

/-- The state with a new `b`. -/
def State.setB (s : State) (v : Byte) : State := { s with b := v }

/-- The state with a new `ix`. -/
def State.setIX (s : State) (v : Word) : State := { s with ix := v }

/-- The state with a new `iy`. -/
def State.setIY (s : State) (v : Word) : State := { s with iy := v }

/-- The state with a new `sp`. -/
def State.setSP (s : State) (v : Word) : State := { s with sp := v }

/-- The state with a new `pc`. -/
def State.setPC (s : State) (v : Word) : State := { s with pc := v }

/-- The state with a new `ccr`. -/
def State.setCcr (s : State) (v : Ccr) : State := { s with ccr := v }

/-- The state with a new `runState`. -/
def State.setRunState (s : State) (v : RunState) : State := { s with runState := v }

/-- The state with a new `pending`. -/
def State.setPending (s : State) (v : Pending) : State := { s with pending := v }

/-- The state with a new `irqInhibit`. -/
def State.setIrqInhibit (s : State) (v : Bool) : State := { s with irqInhibit := v }

/-- The state with a new `xirqHeld`. -/
def State.setXirqHeld (s : State) (v : Bool) : State := { s with xirqHeld := v }

/-- The state with a new `resets`. -/
def State.setResets (s : State) (v : ResetRequests) : State := { s with resets := v }

/-- The state with a new `mem`. -/
def State.setMem (s : State) (v : Memory) : State := { s with mem := v }

/-- The state with a new `device`. -/
def State.setDevice (s : State) (v : Nat) : State := { s with device := v }

/-- The state with a new `draws`. -/
def State.setDraws (s : State) (v : Nat) : State := { s with draws := v }

/-- D, the concatenation A : B (10_state.md R22). -/
def State.d (s : State) : Word := join s.a s.b

/-- `D <- v`: A takes the high byte, B the low byte (00_scope.md R2, 10_state.md R22). -/
def State.setD (s : State) (v : Word) : State := (s.setA (hi v)).setB (lo v)

/-- The machine right after reset, with no memory image loaded (10_state.md R42, 70_reset_and_hazards.md R460).
S = X = I = 1, RUN, no inhibit, PC the word at the reset vector. The spec gives no value for the rest, and what stands
here is the model's (DESIGN CHOICE): A, B, IX, IY, SP, H, N, Z, V, C zero (unspecified, log entry 2); no reset requested,
by the pin, the clock monitor or the COP (log entry 3); nothing pending, where R42 leaves it to the platform (log entry 15);
`xirqHeld` false (log entry 24); no byte of memory listed (log entry 1); `device` and `draws` 0 (log entries 6, 13). Of the parameters, MemMap and
IrqLines have the values of log entries 4 and 9, TEST_MODE the spec's default (log entry 7). -/
def State.reset : State :=
  { a := 0#8
    b := 0#8
    ix := 0#16
    iy := 0#16
    sp := 0#16
    pc := Memory.wordAt [] (resetVector .pin)
    ccr := { s := true, x := true, h := false, i := true, n := false, z := false, v := false, c := false }
    runState := .run
    pending := { xirq := false, irqs := [] }
    irqInhibit := false
    xirqHeld := false
    resets := { pin := false, clockMonitor := false, cop := false }
    mem := []
    memMap := []
    irqLines := defaultIrqLines
    testMode := false
    device := 0
    draws := 0 }

end Sys2Proof.Machine
end

