-- ==== Sys2Proof/Machine/Ops.lean ====
section
/-! DEFINITION. The named operations over memory and registers: byte and word accesses through the memory map,
the stack, the shared trap entry and the return from it, and reset. -/

namespace Sys2Proof.Machine

/-- What stands at an address (20_memory.md R69). -/
def State.kind (s : State) (a : Word) : MemKind := kindAt s.memMap a

/-- What the devices see of a state (20_memory.md R67; log entry 6). -/
def State.deviceView (s : State) : DeviceView :=
  { code := s.device, mem := s.mem, pending := s.pending, resets := s.resets }

/-- Bytes a device stores to memory, one after another: RAM takes them, ROM keeps its fixed byte and Unmapped ignores
them, as for the CPU's writes (20_memory.md R69; log entry 6). -/
def deviceStores : List (Word × Byte) → State → State
  | [], s => s
  | (a, v) :: rest, s => deviceStores rest (if s.kind a = .ram then s.setMem (s.mem.write a.toNat v) else s)

/-- Carry out what a device does when one of its addresses is accessed: its own state, the requests it raises or
withdraws, the resets it requests, and its stores (20_memory.md R67, 60_exceptions.md R422; log entry 6). -/
def deviceStep (e : DeviceEffect) (s : State) : State :=
  (((deviceStores e.stores s).setDevice e.code).setPending e.pending).setResets e.resets

/-- `MemRead(addr, 1)`: the byte, and the state after the access (00_scope.md R3, 20_memory.md R67, R69). -/
def readByte (a : Word) (s : State) : Byte × State :=
  match s.kind a with
  | .ram => (s.mem.byteAt a, s)
  | .rom => (s.mem.byteAt a, s)
  | .io => (Config.deviceRead s.deviceView a, deviceStep (Config.deviceAfterRead s.deviceView a) s)
  | .unmapped => (Config.freeByte s.draws, s.setDraws (s.draws + 1))

/-- `MemWrite(addr, 1, v)` (00_scope.md R3, 20_memory.md R67, R69). -/
def writeByte (a : Word) (v : Byte) (s : State) : State :=
  match s.kind a with
  | .ram => s.setMem (s.mem.write a.toNat v)
  | .rom => s
  | .io => deviceStep (Config.deviceAfterWrite s.deviceView a v) s
  | .unmapped => s

/-- `MemRead(addr, 2)`: the byte at `addr` is the more significant and is read first, `addr + 1` is modulo 2^16
(00_scope.md R3, 20_memory.md R61, R62, R65). -/
def readWord (a : Word) (s : State) : Word × State :=
  let h := readByte a s
  let l := readByte (a + 1#16) h.2
  (join h.1 l.1, l.2)

/-- `MemWrite(addr, 2, v)`: the high byte to `addr`, then the low byte to `addr + 1` (00_scope.md R3). -/
def writeWord (a : Word) (v : Word) (s : State) : State :=
  writeByte (a + 1#16) (lo v) (writeByte a (hi v) s)

/-- `push8` (00_scope.md R5). -/
def push8 (v : Byte) (s : State) : State :=
  let t := writeByte s.sp v s
  t.setSP (t.sp - 1#16)

/-- `push16`: the low byte first (00_scope.md R6). -/
def push16 (v : Word) (s : State) : State := push8 (hi v) (push8 (lo v) s)

/-- `pull8` (00_scope.md R5). -/
def pull8 (s : State) : Byte × State := readByte (s.sp + 1#16) (s.setSP (s.sp + 1#16))

/-- `pull16`: the high byte first (00_scope.md R6). -/
def pull16 (s : State) : Word × State :=
  let h := pull8 s
  let l := pull8 h.2
  (join h.1 l.1, l.2)

/-- The nine-byte frame of a trap and of WAI: return address, IY, IX, A, B, CCR (60_exceptions.md R424,
47_interrupt_special.md R402). -/
def pushFrame (ret : Word) (s : State) : State :=
  push8 s.ccr.toByte (push8 s.b (push8 s.a (push16 s.ix (push16 s.iy (push16 ret s)))))

/-- The masks a trap entry sets: I, and X for XIRQ (60_exceptions.md R424, R428). -/
def trapMasks (k : Trap) (f : Ccr) : Ccr :=
  { f with i := true, x := f.x || decide (k = .xirq) }

/-- The part of the trap entry after the stacking: the masks, the inhibit, RUN, and PC from the vector
(60_exceptions.md R424; on a wake-up from WAIT it is the whole entry, 47_interrupt_special.md R402). -/
def enterHandler (k : Trap) (s : State) : State :=
  let t := ((s.setCcr (trapMasks k s.ccr)).setIrqInhibit false).setRunState .run
  let w := readWord (vector k) t
  w.2.setPC w.1

/-- `trap(kind)` with the return address `ret`: the one entry of every trap (60_exceptions.md R424). -/
def trap (k : Trap) (ret : Word) (s : State) : State := enterHandler k (pushFrame ret s)

/-- `raise IllegalOpcode(a)` in a state whose PC is the address after the opcode byte: which of the two is
stacked is the constant `Config.illopStackedPc` (60_exceptions.md R427; log entry 8). -/
def raiseIllegalOpcode (a : Word) (s : State) : State :=
  trap .illegalOpcode (match Config.illopStackedPc with | .first => a | .next => s.pc) s

/-- The return from a trap: CCR (X only cleared), B, A, IX, IY, PC from the stack (47_interrupt_special.md R400). -/
def returnFromTrap (s : State) : State :=
  let c := pull8 s
  let b := pull8 (c.2.setCcr (c.2.ccr.load c.1))
  let a := pull8 (b.2.setB b.1)
  let ix := pull16 (a.2.setA a.1)
  let iy := pull16 (ix.2.setIX ix.1)
  let pc := pull16 (iy.2.setIY iy.1)
  pc.2.setPC pc.1

/-- The requested resets, once one is done (log entry 3). -/
def servedReset (r : ResetRequests) : ResetKind → ResetRequests
  | .pin => { r with pin := false }
  | .clockMonitor => { r with clockMonitor := false }
  | .cop => { r with cop := false }

/-- The registers a reset leaves unspecified take free values (70_reset_and_hazards.md R460, `RESET_DRAW`;
log entry 3). -/
def drawRegisters (s : State) : State :=
  let d := s.draws
  { s with
    a := Config.freeByte d
    b := Config.freeByte (d + 1)
    ix := Config.freeWord d
    iy := Config.freeWord (d + 1)
    sp := Config.freeWord (d + 2)
    ccr := { s := true, x := true, h := Config.freeBit d, i := true, n := Config.freeBit (d + 1),
             z := Config.freeBit (d + 2), v := Config.freeBit (d + 3), c := Config.freeBit (d + 4) }
    draws := d + 5 }

/-- `reset()`: S, X and I set, RUN, no inhibit, the other registers unspecified, PC from the reset's vector;
nothing is pushed and no memory byte is written (70_reset_and_hazards.md R460, 60_exceptions.md R439). -/
def takeReset (k : ResetKind) (s : State) : State :=
  let t := ((drawRegisters s).setRunState .run).setIrqInhibit false
  let w := readWord (resetVector k) (t.setResets (servedReset t.resets k))
  w.2.setPC w.1

end Sys2Proof.Machine
end

