-- ==== Sys2Proof/Machine/Boundary.lean ====
section
/-! DEFINITION. What happens at an instruction boundary (60_exceptions.md R423, R425, R437). -/

namespace Sys2Proof.Machine

/-- What a step does. -/
inductive Event where
  /-- A reset (70_reset_and_hazards.md R460). -/
  | reset (k : ResetKind)
  /-- A trap that stacks its frame, with PC as the return address (60_exceptions.md R424). -/
  | trap (k : Trap)
  /-- The end of WAIT: the entry without the stacking (47_interrupt_special.md R402). -/
  | wake (k : Trap)
  /-- The end of STOP by an XIRQ edge with X = 1: no trap (47_interrupt_special.md R403, 92_eei_decisions.md D15). -/
  | resume
  /-- Execute one instruction. -/
  | execute
  /-- Nothing: the state stays (60_exceptions.md R437), but for the record of XIRQ's level in STOP. -/
  | idle
deriving DecidableEq, Repr

/-- The reset to take: `Reset`, then `ClockMonitor`, then `COP` (60_exceptions.md R425). -/
def requestedReset (r : ResetRequests) : Option ResetKind :=
  if r.pin then some .pin
  else if r.clockMonitor then some .clockMonitor
  else if r.cop then some .cop
  else none

/-- XIRQ is pending and X lets it through (60_exceptions.md R428). -/
def xirqTaken (s : State) : Bool := s.pending.xirq && !s.ccr.x

/-- The pending line of highest priority, if I lets one through (60_exceptions.md R425, R429). -/
def irqTaken (s : State) : Option IrqLine :=
  if s.ccr.i then none else s.irqLines.find? fun l => decide (l ∈ s.pending.irqs)

/-- The external IRQ pin is a line of the platform, is pending, and I lets it through: what ends STOP
(47_interrupt_special.md R403). -/
def irqPinTaken (s : State) : Bool :=
  !s.ccr.i && decide (.irq ∈ s.irqLines) && decide (.irq ∈ s.pending.irqs)

/-- The XIRQ edge of 92_eei_decisions.md D15, in STOP: the request is present, and was absent as STOP was entered or
at some boundary since (log entry 24). -/
def xirqEdge (s : State) : Bool := s.pending.xirq && !s.xirqHeld

/-- A look at XIRQ in STOP that does not end it: once the request is withdrawn, the next one is an edge
(92_eei_decisions.md D15; log entry 24). -/
def watchXirq (s : State) : State :=
  if s.runState = .stop then s.setXirqHeld (s.xirqHeld && s.pending.xirq) else s

/-- The choice of the step function in each `RunState` (60_exceptions.md R423, R437). In STOP an XIRQ with X = 0 traps
by its level (R428), with X = 1 its edge resumes without a trap (R403, 92_eei_decisions.md D15). Where that edge comes
together with the IRQ pin at I = 0 no order is given: the step resumes, and the pin's trap is taken at the next
boundary (DESIGN CHOICE, log entry 25). -/
def nextEvent (s : State) : Event :=
  match requestedReset s.resets with
  | some k => .reset k
  | none =>
    match s.runState with
    | .run =>
      if xirqTaken s then .trap .xirq
      else if s.irqInhibit then .execute
      else match irqTaken s with
        | some l => .trap (.irq l)
        | none => .execute
    | .wait =>
      if xirqTaken s then .wake .xirq
      else match irqTaken s with
        | some l => .wake (.irq l)
        | none => .idle
    | .stop =>
      if xirqTaken s then .trap .xirq
      else if xirqEdge s then .resume
      else if irqPinTaken s then .trap (.irq .irq)
      else .idle
    | .testHang => .idle

end Sys2Proof.Machine
end

