-- ==== Sys2Proof/Machine/Flags.lean ====
section
/-! DEFINITION. The arithmetic of the ALU and every flag computation of the spec (00_scope.md R7 to R13 and the
Flags lines of files 40 to 47). Each flag function takes the CCR before and answers the CCR after: a bit it does
not name is unchanged. -/

namespace Sys2Proof.Machine

/-- `nz8` (00_scope.md R7). -/
def nz8 (r : Byte) (f : Ccr) : Ccr := { f with n := r.msb, z := decide (r = 0#8) }

/-- `nz16` (00_scope.md R7). -/
def nz16 (r : Word) (f : Ccr) : Ccr := { f with n := r.msb, z := decide (r = 0#16) }

/-- `logic8` (00_scope.md R12). -/
def logic8 (r : Byte) (f : Ccr) : Ccr := { nz8 r f with v := false }

/-- `logic16` (00_scope.md R12). -/
def logic16 (r : Word) (f : Ccr) : Ccr := { nz16 r f with v := false }

/-- The sum of `add8` (00_scope.md R8). -/
def sum8 (a m : Byte) (c : Bool) : Byte := BitVec.ofNat 8 (a.toNat + m.toNat + bitNat c)

/-- The flags of `add8` (00_scope.md R8). -/
def addFlags8 (a m : Byte) (c : Bool) (f : Ccr) : Ccr :=
  let r := sum8 a m c
  { nz8 r f with
    h := decide (15 < a.toNat % 16 + m.toNat % 16 + bitNat c)
    v := (a.msb == m.msb) && (r.msb != a.msb)
    c := decide (255 < a.toNat + m.toNat + bitNat c) }

/-- The difference of `sub8` (00_scope.md R9). -/
def diff8 (a m : Byte) (c : Bool) : Byte := BitVec.ofInt 8 ((a.toNat : Int) - m.toNat - bitNat c)

/-- The flags of `sub8`; C is a borrow (00_scope.md R9). -/
def subFlags8 (a m : Byte) (c : Bool) (f : Ccr) : Ccr :=
  let r := diff8 a m c
  { nz8 r f with
    v := (a.msb != m.msb) && (r.msb != a.msb)
    c := decide (a.toNat < m.toNat + bitNat c) }

/-- The sum of `add16` (00_scope.md R10). -/
def sum16 (a m : Word) : Word := BitVec.ofNat 16 (a.toNat + m.toNat)

/-- The flags of `add16` (00_scope.md R10). -/
def addFlags16 (a m : Word) (f : Ccr) : Ccr :=
  let r := sum16 a m
  { nz16 r f with
    v := (a.msb == m.msb) && (r.msb != a.msb)
    c := decide (65535 < a.toNat + m.toNat) }

/-- The difference of `sub16` (00_scope.md R11). -/
def diff16 (a m : Word) : Word := BitVec.ofInt 16 ((a.toNat : Int) - m.toNat)

/-- The flags of `sub16`; C is a borrow (00_scope.md R11). -/
def subFlags16 (a m : Word) (f : Ccr) : Ccr :=
  let r := diff16 a m
  { nz16 r f with
    v := (a.msb != m.msb) && (r.msb != a.msb)
    c := decide (a.toNat < m.toNat) }

/-- `shiftflags8`: V is the new N xor the new C (00_scope.md R13). -/
def shiftFlags8 (r : Byte) (cout : Bool) (f : Ccr) : Ccr :=
  { nz8 r f with c := cout, v := r.msb ^^ cout }

/-- `shiftflags16` (00_scope.md R13). -/
def shiftFlags16 (r : Word) (cout : Bool) (f : Ccr) : Ccr :=
  { nz16 r f with c := cout, v := r.msb ^^ cout }

/-- The flags of COM: N, Z from the result, V cleared, C set (42_logic_complement.md R266). -/
def comFlags (r : Byte) (f : Ccr) : Ccr := { nz8 r f with v := false, c := true }

/-- The flags of NEG: V when the result is $80, C when it is not $00 (42_logic_complement.md R269). -/
def negFlags (r : Byte) (f : Ccr) : Ccr :=
  { nz8 r f with v := decide (r = 0x80#8), c := decide (r ≠ 0#8) }

/-- The flags of INC: V when the operand was $7F, C unchanged (43_incdec_clear_set.md R286). -/
def incFlags (m : Byte) (f : Ccr) : Ccr := { nz8 (m + 1#8) f with v := decide (m = 0x7F#8) }

/-- The flags of DEC: V when the operand was $80, C unchanged (43_incdec_clear_set.md R280). -/
def decFlags (m : Byte) (f : Ccr) : Ccr := { nz8 (m - 1#8) f with v := decide (m = 0x80#8) }

/-- The flags of INX, INY, DEX, DEY: Z only (43_incdec_clear_set.md R284, R290). -/
def zOnly16 (r : Word) (f : Ccr) : Ccr := { f with z := decide (r = 0#16) }

/-- The flags of CLR (43_incdec_clear_set.md R293). -/
def clrFlags (f : Ccr) : Ccr := { f with n := false, z := true, v := false, c := false }

/-- The flags of MUL: C is bit 7 of the product, nothing else is written (40_arithmetic.md R215). -/
def mulFlags (p : Word) (f : Ccr) : Ccr := { f with c := p.getLsbD 7 }

/-- The flags of TST: those of `m - 0` (45_test_compare.md R358). -/
def tstFlags (m : Byte) (f : Ccr) : Ccr := { nz8 m f with v := false, c := false }

/-- A one-operand operation: its result and its flags, from the operand and the CCR before. -/
structure UnaryOp where
  result : Byte → Ccr → Byte
  flags : Byte → Ccr → Ccr

/-- A two-operand 8-bit operation: its result and its flags, from the accumulator, the operand and the CCR
before. -/
structure AluOp8 where
  result : Byte → Byte → Ccr → Byte
  flags : Byte → Byte → Ccr → Ccr

/-- A two-operand 16-bit operation. -/
structure AluOp16 where
  result : Word → Word → Word
  flags : Word → Word → Ccr → Ccr

/-- ADD (40_arithmetic.md R205). -/
def addOp : AluOp8 := { result := fun a m _ => sum8 a m false, flags := fun a m f => addFlags8 a m false f }

/-- ADC: the carry-in is the old C (40_arithmetic.md R203). -/
def adcOp : AluOp8 := { result := fun a m f => sum8 a m f.c, flags := fun a m f => addFlags8 a m f.c f }

/-- SUB, and CMP without the write-back (40_arithmetic.md R212, 45_test_compare.md R353). -/
def subOp : AluOp8 := { result := fun a m _ => diff8 a m false, flags := fun a m f => subFlags8 a m false f }

/-- SBC: the borrow-in is the old C (40_arithmetic.md R210). -/
def sbcOp : AluOp8 := { result := fun a m f => diff8 a m f.c, flags := fun a m f => subFlags8 a m f.c f }

/-- AND, and BIT without the write-back (42_logic_complement.md R260, 45_test_compare.md R350). -/
def andOp : AluOp8 := { result := fun a m _ => a &&& m, flags := fun a m f => logic8 (a &&& m) f }

/-- EOR (42_logic_complement.md R262). -/
def eorOp : AluOp8 := { result := fun a m _ => a ^^^ m, flags := fun a m f => logic8 (a ^^^ m) f }

/-- ORA (42_logic_complement.md R264). -/
def oraOp : AluOp8 := { result := fun a m _ => a ||| m, flags := fun a m f => logic8 (a ||| m) f }

/-- Load: the operand itself (44_transfer.md R310). -/
def loadOp : AluOp8 := { result := fun _ m _ => m, flags := fun _ m f => logic8 m f }

/-- ADDD (40_arithmetic.md R207). -/
def addOp16 : AluOp16 := { result := sum16, flags := addFlags16 }

/-- SUBD, and the 16-bit compares without the write-back (40_arithmetic.md R214, 45_test_compare.md R355). -/
def subOp16 : AluOp16 := { result := diff16, flags := subFlags16 }

/-- ASL = LSL: 0 enters at bit 0, bit 7 leaves to C (41_shift_rotate.md R230). -/
def aslOp : UnaryOp := { result := fun m _ => m <<< 1, flags := fun m f => shiftFlags8 (m <<< 1) m.msb f }

/-- ASR: bit 7 keeps its value, bit 0 leaves to C (41_shift_rotate.md R234). -/
def asrOp : UnaryOp :=
  { result := fun m _ => (m >>> 1) ||| (m &&& 0x80#8)
    flags := fun m f => shiftFlags8 ((m >>> 1) ||| (m &&& 0x80#8)) (m.getLsbD 0) f }

/-- LSR: 0 enters at bit 7, bit 0 leaves to C (41_shift_rotate.md R241). -/
def lsrOp : UnaryOp := { result := fun m _ => m >>> 1, flags := fun m f => shiftFlags8 (m >>> 1) (m.getLsbD 0) f }

/-- The result of ROL: the old C enters at bit 0 (41_shift_rotate.md R245). -/
def rolByte (m : Byte) (c : Bool) : Byte := (m <<< 1) ||| (BitVec.ofBool c).setWidth 8

/-- The result of ROR: the old C enters at bit 7 (41_shift_rotate.md R248). -/
def rorByte (m : Byte) (c : Bool) : Byte := (m >>> 1) ||| ((BitVec.ofBool c).setWidth 8 <<< 7)

/-- ROL (41_shift_rotate.md R245). -/
def rolOp : UnaryOp :=
  { result := fun m f => rolByte m f.c, flags := fun m f => shiftFlags8 (rolByte m f.c) m.msb f }

/-- ROR (41_shift_rotate.md R248). -/
def rorOp : UnaryOp :=
  { result := fun m f => rorByte m f.c, flags := fun m f => shiftFlags8 (rorByte m f.c) (m.getLsbD 0) f }

/-- COM: `$FF - m` (42_logic_complement.md R266). -/
def comOp : UnaryOp := { result := fun m _ => 0xFF#8 - m, flags := fun m f => comFlags (0xFF#8 - m) f }

/-- NEG: `$00 - m` (42_logic_complement.md R269). -/
def negOp : UnaryOp := { result := fun m _ => 0#8 - m, flags := fun m f => negFlags (0#8 - m) f }

/-- INC (43_incdec_clear_set.md R286). -/
def incOp : UnaryOp := { result := fun m _ => m + 1#8, flags := incFlags }

/-- DEC (43_incdec_clear_set.md R280). -/
def decOp : UnaryOp := { result := fun m _ => m - 1#8, flags := decFlags }

/-- CLR: the value read is discarded (43_incdec_clear_set.md R293). -/
def clrOp : UnaryOp := { result := fun _ _ => 0#8, flags := fun _ f => clrFlags f }

/-- BCLR with mask `k`: clear every bit whose mask bit is 1 (43_incdec_clear_set.md R296). -/
def bclrOp (k : Byte) : UnaryOp :=
  { result := fun m _ => m &&& ~~~k, flags := fun m f => logic8 (m &&& ~~~k) f }

/-- BSET with mask `k`: set every bit whose mask bit is 1 (43_incdec_clear_set.md R297). -/
def bsetOp (k : Byte) : UnaryOp := { result := fun m _ => m ||| k, flags := fun m f => logic8 (m ||| k) f }

/-! Branch conditions (46_branch_jump.md R370 to R385). -/

def condCc (f : Ccr) : Bool := !f.c
def condCs (f : Ccr) : Bool := f.c
def condEq (f : Ccr) : Bool := f.z
def condNe (f : Ccr) : Bool := !f.z
def condMi (f : Ccr) : Bool := f.n
def condPl (f : Ccr) : Bool := !f.n
def condVc (f : Ccr) : Bool := !f.v
def condVs (f : Ccr) : Bool := f.v
def condHi (f : Ccr) : Bool := !(f.c || f.z)
def condLs (f : Ccr) : Bool := f.c || f.z
def condGe (f : Ccr) : Bool := !(f.n ^^ f.v)
def condLt (f : Ccr) : Bool := f.n ^^ f.v
def condGt (f : Ccr) : Bool := !(f.z || (f.n ^^ f.v))
def condLe (f : Ccr) : Bool := f.z || (f.n ^^ f.v)

end Sys2Proof.Machine
end

