-- ==== Sys2Proof/Syntax.lean ====
section
/-! DEFINITION. The instructions: one constructor for each of the 145 mnemonics of spec/opcode_table.json, its
argument the operand form, so that each row of the table is one constructor applied to one form. The operand
types hold exactly the forms the spec gives (30_encoding.md R102 to R109). -/

namespace Sys2Proof

/-- The address forms of the stores and JSR: DIR, EXT, IND,X, IND,Y (30_encoding.md R105 to R107). -/
inductive Addr where
  /-- `dd`, the low byte of an address in the direct page. -/
  | dir (dd : Byte)
  /-- `hh ll`, a whole address. -/
  | ext (hhll : Word)
  /-- `ff`, an unsigned offset from IX. -/
  | indX (ff : Byte)
  /-- `ff`, an unsigned offset from IY. -/
  | indY (ff : Byte)
deriving DecidableEq, Repr

/-- An 8-bit source operand: IMM8 or an address (30_encoding.md R104 to R107). -/
inductive Src8 where
  | imm (ii : Byte)
  | mem (a : Addr)
deriving DecidableEq, Repr

/-- A 16-bit source operand: IMM16 or an address (30_encoding.md R104 to R107). -/
inductive Src16 where
  | imm (jjkk : Word)
  | mem (a : Addr)
deriving DecidableEq, Repr

/-- The address forms of the read-modify-write group, TST and JMP: EXT, IND,X, IND,Y; there is no DIR form
(30_encoding.md R121). -/
inductive RmwAddr where
  | ext (hhll : Word)
  | indX (ff : Byte)
  | indY (ff : Byte)
deriving DecidableEq, Repr

/-- The address forms of BSET, BCLR, BRSET, BRCLR: DIR, IND,X, IND,Y; there is no EXT form
(30_encoding.md R109). -/
inductive BitAddr where
  | dir (dd : Byte)
  | indX (ff : Byte)
  | indY (ff : Byte)
deriving DecidableEq, Repr

/-- The instruction set (30_encoding.md R111 to R114, R120). `rr` is a relative offset, `mm` a mask byte. -/
inductive Instr where
  -- arithmetic (40_arithmetic.md)
  | aba | abx | aby
  | adca (o : Src8) | adcb (o : Src8) | adda (o : Src8) | addb (o : Src8) | addd (o : Src16)
  | daa | sba
  | sbca (o : Src8) | sbcb (o : Src8) | suba (o : Src8) | subb (o : Src8) | subd (o : Src16)
  | mul | fdiv | idiv
  -- shifts and rotates (41_shift_rotate.md)
  | asl (o : RmwAddr) | asla | aslb | asld
  | asr (o : RmwAddr) | asra | asrb
  | lsl (o : RmwAddr) | lsla | lslb | lsld
  | lsr (o : RmwAddr) | lsra | lsrb | lsrd
  | rol (o : RmwAddr) | rola | rolb
  | ror (o : RmwAddr) | rora | rorb
  -- logic and complement (42_logic_complement.md)
  | anda (o : Src8) | andb (o : Src8) | eora (o : Src8) | eorb (o : Src8) | oraa (o : Src8) | orab (o : Src8)
  | com (o : RmwAddr) | coma | comb
  | neg (o : RmwAddr) | nega | negb
  -- increment, decrement, clear, set (43_incdec_clear_set.md)
  | dec (o : RmwAddr) | deca | decb | des | dex | dey
  | inc (o : RmwAddr) | inca | incb | ins | inx | iny
  | nop
  | clr (o : RmwAddr) | clra | clrb
  | bclr (o : BitAddr) (mm : Byte) | bset (o : BitAddr) (mm : Byte)
  | clc | cli | clv | sec | sei | sev
  -- transfers and stack (44_transfer.md)
  | ldaa (o : Src8) | ldab (o : Src8)
  | ldd (o : Src16) | lds (o : Src16) | ldx (o : Src16) | ldy (o : Src16)
  | staa (o : Addr) | stab (o : Addr) | std (o : Addr) | sts (o : Addr) | stx (o : Addr) | sty (o : Addr)
  | psha | pshb | pshx | pshy
  | pula | pulb | pulx | puly
  | tab | tba | tap | tpa | tsx | tsy | txs | tys | xgdx | xgdy
  -- tests and compares (45_test_compare.md)
  | bita (o : Src8) | bitb (o : Src8)
  | cba
  | cmpa (o : Src8) | cmpb (o : Src8)
  | cpd (o : Src16) | cpx (o : Src16) | cpy (o : Src16)
  | tst (o : RmwAddr) | tsta | tstb
  -- branches, jumps, subroutines (46_branch_jump.md)
  | bcc (rr : Byte) | bcs (rr : Byte) | beq (rr : Byte) | bne (rr : Byte)
  | bmi (rr : Byte) | bpl (rr : Byte) | bvc (rr : Byte) | bvs (rr : Byte)
  | bhi (rr : Byte) | bhs (rr : Byte) | blo (rr : Byte) | bls (rr : Byte)
  | bge (rr : Byte) | bgt (rr : Byte) | ble (rr : Byte) | blt (rr : Byte)
  | brclr (o : BitAddr) (mm : Byte) (rr : Byte) | brset (o : BitAddr) (mm : Byte) (rr : Byte)
  | bra (rr : Byte) | brn (rr : Byte) | bsr (rr : Byte)
  | jmp (o : RmwAddr) | jsr (o : Addr) | rts
  -- interrupts and special (47_interrupt_special.md)
  | rti | swi | wai | stop | test
deriving DecidableEq, Repr

end Sys2Proof
end

