-- ==== Sys2Proof/Machine/Operands.lean ====
section
/-! DEFINITION. Every operand form (30_encoding.md R103 to R110), and the shared shapes of the instructions over
them. The operand bytes have been fetched before any of this runs (R110). -/

namespace Sys2Proof.Machine

/-- The effective address `ea()` of DIR, EXT, IND,X, IND,Y (30_encoding.md R105 to R107, R110). -/
def ea (o : Addr) (s : State) : Word :=
  match o with
  | .dir dd => zext16 dd
  | .ext hhll => hhll
  | .indX ff => s.ix + zext16 ff
  | .indY ff => s.iy + zext16 ff

/-- A read-modify-write operand as an address form. -/
def rmwAddr : RmwAddr → Addr
  | .ext hhll => .ext hhll
  | .indX ff => .indX ff
  | .indY ff => .indY ff

/-- A bit instruction's operand as an address form. -/
def bitAddr : BitAddr → Addr
  | .dir dd => .dir dd
  | .indX ff => .indX ff
  | .indY ff => .indY ff

/-- `operand8()` (30_encoding.md R110). -/
def operand8 (o : Src8) (s : State) : Byte × State :=
  match o with
  | .imm ii => (ii, s)
  | .mem a => readByte (ea a s) s

/-- `operand16()` (30_encoding.md R110). -/
def operand16 (o : Src16) (s : State) : Word × State :=
  match o with
  | .imm jjkk => (jjkk, s)
  | .mem a => readWord (ea a s) s

/-- A <- A op m, with the flags of the operation. -/
def aluA (op : AluOp8) (o : Src8) (s : State) : State :=
  let m := operand8 o s
  (m.2.setA (op.result m.2.a m.1 m.2.ccr)).setCcr (op.flags m.2.a m.1 m.2.ccr)

/-- B <- B op m, with the flags of the operation. -/
def aluB (op : AluOp8) (o : Src8) (s : State) : State :=
  let m := operand8 o s
  (m.2.setB (op.result m.2.b m.1 m.2.ccr)).setCcr (op.flags m.2.b m.1 m.2.ccr)

/-- A <- A op B, with the flags of the operation. -/
def aluAB (op : AluOp8) (s : State) : State :=
  (s.setA (op.result s.a s.b s.ccr)).setCcr (op.flags s.a s.b s.ccr)

/-- D <- D op m, with the flags of the operation. -/
def aluD (op : AluOp16) (o : Src16) (s : State) : State :=
  let m := operand16 o s
  (m.2.setD (op.result m.2.d m.1)).setCcr (op.flags m.2.d m.1 m.2.ccr)

/-- The flags of A op m; the result is discarded (45_test_compare.md). -/
def testA (op : AluOp8) (o : Src8) (s : State) : State :=
  let m := operand8 o s
  m.2.setCcr (op.flags m.2.a m.1 m.2.ccr)

/-- The flags of B op m; the result is discarded (45_test_compare.md). -/
def testB (op : AluOp8) (o : Src8) (s : State) : State :=
  let m := operand8 o s
  m.2.setCcr (op.flags m.2.b m.1 m.2.ccr)

/-- The flags of `r - m` for a 16-bit register that holds `r`; the difference is discarded (45_test_compare.md). -/
def compare16 (r : Word) (o : Src16) (s : State) : State :=
  let m := operand16 o s
  m.2.setCcr (subFlags16 r m.1 m.2.ccr)

/-- Read a byte, write the operation's result once to the same address, with its flags (20_memory.md R66). -/
def modify (op : UnaryOp) (o : Addr) (s : State) : State :=
  let a := ea o s
  let m := readByte a s
  writeByte a (op.result m.1 m.2.ccr) (m.2.setCcr (op.flags m.1 m.2.ccr))

/-- A <- op A, with the flags of the operation. -/
def modifyA (op : UnaryOp) (s : State) : State :=
  (s.setA (op.result s.a s.ccr)).setCcr (op.flags s.a s.ccr)

/-- B <- op B, with the flags of the operation. -/
def modifyB (op : UnaryOp) (s : State) : State :=
  (s.setB (op.result s.b s.ccr)).setCcr (op.flags s.b s.ccr)

/-- Store a byte, N and Z from it, V cleared; the location is not read (44_transfer.md R316). -/
def store8 (v : Byte) (o : Addr) (s : State) : State :=
  writeByte (ea o s) v (s.setCcr (logic8 v s.ccr))

/-- Store a word, N and Z from it, V cleared; the location is not read (44_transfer.md R318). -/
def store16 (v : Word) (o : Addr) (s : State) : State :=
  writeWord (ea o s) v (s.setCcr (logic16 v s.ccr))

/-- Load a 16-bit register through its update, N and Z from the word, V cleared (44_transfer.md R312 to R315). -/
def load16 (set : State → Word → State) (o : Src16) (s : State) : State :=
  let m := operand16 o s
  (set m.2 m.1).setCcr (logic16 m.1 m.2.ccr)

/-- The flags of a memory byte minus zero; the byte is only read (45_test_compare.md R358). -/
def testByte (o : Addr) (s : State) : State :=
  let m := readByte (ea o s) s
  m.2.setCcr (tstFlags m.1 m.2.ccr)

/-- The relative branch: PC already holds the address of the next instruction (30_encoding.md R108). -/
def branchIf (taken : Bool) (rr : Byte) (s : State) : State :=
  if taken then s.setPC (s.pc + sext16 rr) else s

/-- The branch on a memory byte that satisfies a test (46_branch_jump.md R386, R387). -/
def branchOnBits (test : Byte → Bool) (o : BitAddr) (rr : Byte) (s : State) : State :=
  let m := readByte (ea (bitAddr o) s) s
  branchIf (test m.1) rr m.2

end Sys2Proof.Machine
end

