-- ==== Sys2Proof/Machine/Arithmetic.lean ====
section
/-! DEFINITION. Arithmetic instructions: the meaning of each, entered with PC past the
instruction (00_scope.md R4; log entry 16). Rules of 40_arithmetic.md. -/

namespace Sys2Proof.Machine

/-- The product of MUL, unsigned (R215). -/
def product (a b : Byte) : Word := BitVec.ofNat 16 (a.toNat * b.toNat)

/-- The states an addition of two packed-BCD bytes, with or without carry-in, can leave in A, H and C: the ones
for which R208 fixes the result (DEDUCED, log entry 11). -/
def isDecimalSum (a : Byte) (h c : Bool) : Bool :=
  let lowDigit := a.toNat % 16
  let highDigit := a.toNat / 16
  let highOk := if c then decide (highDigit ≤ 2 + bitNat h) else decide (bitNat h ≤ highDigit)
  highOk && (!h || decide (lowDigit ≤ 3))

/-- The correction of DAA (R208). -/
def decimalCorrection (a : Byte) (h c : Bool) : Byte :=
  let lowDigit := a.toNat % 16
  let highDigit := a.toNat / 16
  let low : Byte := if 9 < lowDigit ∨ h then 0x06#8 else 0x00#8
  let high : Byte := if 9 < highDigit ∨ c ∨ (8 < highDigit ∧ 9 < lowDigit) then 0x60#8 else 0x00#8
  low ||| high

/-- DAA. After a decimal sum A and C are corrected and V is free; in any other state A, C and V are free. N and Z
are those of the new A in both (R208; 93_implementation_defined.md U3; log entry 11). -/
def decimalAdjust (s : State) : State :=
  let cf := decimalCorrection s.a s.ccr.h s.ccr.c
  let known := isDecimalSum s.a s.ccr.h s.ccr.c
  let r := if known then sum8 s.a cf false else Config.freeByte s.draws
  let c := if known then s.ccr.c || decide (255 < s.a.toNat + cf.toNat) else Config.freeBit (s.draws + 1)
  ((s.setA r).setCcr { nz8 r s.ccr with v := Config.freeBit s.draws, c := c }).setDraws (s.draws + 2)

/-- IDIV. The quotient to IX, the remainder to D; a zero divisor leaves D free (R217; log entry 12). -/
def integerDivide (s : State) : State :=
  if s.ix = 0#16 then
    (((s.setIX 0xFFFF#16).setD (Config.freeWord s.draws)).setCcr
      { s.ccr with z := false, v := false, c := true }).setDraws (s.draws + 1)
  else
    let q := s.d / s.ix
    ((s.setIX q).setD (s.d % s.ix)).setCcr { s.ccr with z := decide (q = 0#16), v := false, c := false }

/-- FDIV. The quotient of D * 65536 by IX to IX, the remainder to D; where the quotient does not fit, D is free
(R216; log entry 12). -/
def fractionalDivide (s : State) : State :=
  if s.ix ≤ s.d then
    (((s.setIX 0xFFFF#16).setD (Config.freeWord s.draws)).setCcr
      { s.ccr with z := false, v := true, c := decide (s.ix = 0#16) }).setDraws (s.draws + 1)
  else
    let n := s.d.toNat * 65536
    let q := BitVec.ofNat 16 (n / s.ix.toNat)
    ((s.setIX q).setD (BitVec.ofNat 16 (n % s.ix.toNat))).setCcr
      { s.ccr with z := decide (q = 0#16), v := false, c := false }

/-- ABA, Add Accumulators (R200). -/
def execAba (s : State) : Result := .next (aluAB addOp s)

/-- ABX, Add B to X (R201). -/
def execAbx (s : State) : Result := .next (s.setIX (s.ix + zext16 s.b))

/-- ABY, Add B to Y (R202). -/
def execAby (s : State) : Result := .next (s.setIY (s.iy + zext16 s.b))

/-- ADCA, Add with Carry to A (R203). -/
def execAdca (o : Src8) (s : State) : Result := .next (aluA adcOp o s)

/-- ADCB, Add with Carry to B (R204). -/
def execAdcb (o : Src8) (s : State) : Result := .next (aluB adcOp o s)

/-- ADDA, Add Memory to A (R205). -/
def execAdda (o : Src8) (s : State) : Result := .next (aluA addOp o s)

/-- ADDB, Add Memory to B (R206). -/
def execAddb (o : Src8) (s : State) : Result := .next (aluB addOp o s)

/-- ADDD, Add 16-Bit to D (R207). -/
def execAddd (o : Src16) (s : State) : Result := .next (aluD addOp16 o s)

/-- DAA, Decimal Adjust A (R208). -/
def execDaa (s : State) : Result := .next (decimalAdjust s)

/-- SBA, Subtract B from A (R209). -/
def execSba (s : State) : Result := .next (aluAB subOp s)

/-- SBCA, Subtract with Carry from A (R210). -/
def execSbca (o : Src8) (s : State) : Result := .next (aluA sbcOp o s)

/-- SBCB, Subtract with Carry from B (R211). -/
def execSbcb (o : Src8) (s : State) : Result := .next (aluB sbcOp o s)

/-- SUBA, Subtract Memory from A (R212). -/
def execSuba (o : Src8) (s : State) : Result := .next (aluA subOp o s)

/-- SUBB, Subtract Memory from B (R213). -/
def execSubb (o : Src8) (s : State) : Result := .next (aluB subOp o s)

/-- SUBD, Subtract Memory from D (R214). -/
def execSubd (o : Src16) (s : State) : Result := .next (aluD subOp16 o s)

/-- MUL, Multiply 8 by 8 (R215). C is bit 7 of the product. -/
def execMul (s : State) : Result :=
  .next ((s.setD (product s.a s.b)).setCcr (mulFlags (product s.a s.b) s.ccr))

/-- FDIV, Fractional Divide 16 by 16 (R216). -/
def execFdiv (s : State) : Result := .next (fractionalDivide s)

/-- IDIV, Integer Divide 16 by 16 (R217). -/
def execIdiv (s : State) : Result := .next (integerDivide s)

end Sys2Proof.Machine
end

