-- ==== Sys2Proof/Machine/Branch.lean ====
section
/-! DEFINITION. Branches, jumps and subroutines instructions: the meaning of each, entered with PC past the
instruction (00_scope.md R4; log entry 16). Rules of 46_branch_jump.md. -/

namespace Sys2Proof.Machine

/-- BCC, Branch if Carry Clear (R370). -/
def execBcc (rr : Byte) (s : State) : Result := .next (branchIf (condCc s.ccr) rr s)

/-- BCS, Branch if Carry Set (R371). -/
def execBcs (rr : Byte) (s : State) : Result := .next (branchIf (condCs s.ccr) rr s)

/-- BEQ, Branch if = Zero (R372). -/
def execBeq (rr : Byte) (s : State) : Result := .next (branchIf (condEq s.ccr) rr s)

/-- BNE, Branch if not = Zero (R373). -/
def execBne (rr : Byte) (s : State) : Result := .next (branchIf (condNe s.ccr) rr s)

/-- BMI, Branch if Minus (R374). -/
def execBmi (rr : Byte) (s : State) : Result := .next (branchIf (condMi s.ccr) rr s)

/-- BPL, Branch if Plus (R375). -/
def execBpl (rr : Byte) (s : State) : Result := .next (branchIf (condPl s.ccr) rr s)

/-- BVC, Branch if Overflow Clear (R376). -/
def execBvc (rr : Byte) (s : State) : Result := .next (branchIf (condVc s.ccr) rr s)

/-- BVS, Branch if Overflow Set (R377). -/
def execBvs (rr : Byte) (s : State) : Result := .next (branchIf (condVs s.ccr) rr s)

/-- BHI, Branch if Higher (R378). -/
def execBhi (rr : Byte) (s : State) : Result := .next (branchIf (condHi s.ccr) rr s)

/-- BHS, Branch if Higher or Same (R379). -/
def execBhs (rr : Byte) (s : State) : Result := .next (branchIf (condCc s.ccr) rr s)

/-- BLO, Branch if Lower (R380). -/
def execBlo (rr : Byte) (s : State) : Result := .next (branchIf (condCs s.ccr) rr s)

/-- BLS, Branch if Lower or Same (R381). -/
def execBls (rr : Byte) (s : State) : Result := .next (branchIf (condLs s.ccr) rr s)

/-- BGE, Branch if ≥ Zero (R382). -/
def execBge (rr : Byte) (s : State) : Result := .next (branchIf (condGe s.ccr) rr s)

/-- BGT, Branch if > Zero (R383). -/
def execBgt (rr : Byte) (s : State) : Result := .next (branchIf (condGt s.ccr) rr s)

/-- BLE, Branch if ≤ Zero (R384). -/
def execBle (rr : Byte) (s : State) : Result := .next (branchIf (condLe s.ccr) rr s)

/-- BLT, Branch if < Zero (R385). -/
def execBlt (rr : Byte) (s : State) : Result := .next (branchIf (condLt s.ccr) rr s)

/-- BRCLR, Branch if (msk) Bit(s) Clear (R386). -/
def execBrclr (o : BitAddr) (mm rr : Byte) (s : State) : Result :=
  .next (branchOnBits (fun m => decide (m &&& mm = 0#8)) o rr s)

/-- BRSET, Branch if Bit(s) Set (R387). -/
def execBrset (o : BitAddr) (mm rr : Byte) (s : State) : Result :=
  .next (branchOnBits (fun m => decide (~~~m &&& mm = 0#8)) o rr s)

/-- BRA, Branch Always (R388). -/
def execBra (rr : Byte) (s : State) : Result := .next (branchIf true rr s)

/-- BRN, Branch Never (R389). The offset byte was fetched and is not used. -/
def execBrn (_rr : Byte) (s : State) : Result := .next s

/-- BSR, Branch to Subroutine (R390). PC is the return address. -/
def execBsr (rr : Byte) (s : State) : Result := .next ((push16 s.pc s).setPC (s.pc + sext16 rr))

/-- JMP, Jump (R391). -/
def execJmp (o : RmwAddr) (s : State) : Result := .next (s.setPC (ea (rmwAddr o) s))

/-- JSR, Jump to Subroutine (R392). The effective address is computed before the push. -/
def execJsr (o : Addr) (s : State) : Result := .next ((push16 s.pc s).setPC (ea o s))

/-- RTS, Return from Subroutine (R393). -/
def execRts (s : State) : Result := .next ((pull16 s).2.setPC (pull16 s).1)

end Sys2Proof.Machine
end

