-- ==== Sys2Proof/Machine/Compare.lean ====
section
/-! DEFINITION. Test and compare instructions: the meaning of each, entered with PC past the
instruction (00_scope.md R4; log entry 16). Rules of 45_test_compare.md. -/

namespace Sys2Proof.Machine

/-- BITA, Bit(s) Test A with Memory (R350). -/
def execBita (o : Src8) (s : State) : Result := .next (testA andOp o s)

/-- BITB, Bit(s) Test B with Memory (R351). -/
def execBitb (o : Src8) (s : State) : Result := .next (testB andOp o s)

/-- CBA, Compare A to B (R352). -/
def execCba (s : State) : Result := .next (s.setCcr (subFlags8 s.a s.b false s.ccr))

/-- CMPA, Compare A to Memory (R353). -/
def execCmpa (o : Src8) (s : State) : Result := .next (testA subOp o s)

/-- CMPB, Compare B to Memory (R354). -/
def execCmpb (o : Src8) (s : State) : Result := .next (testB subOp o s)

/-- CPD, Compare D to Memory 16-Bit (R355). -/
def execCpd (o : Src16) (s : State) : Result := .next (compare16 s.d o s)

/-- CPX, Compare X to Memory 16-Bit (R356). -/
def execCpx (o : Src16) (s : State) : Result := .next (compare16 s.ix o s)

/-- CPY, Compare Y to Memory 16-Bit (R357). -/
def execCpy (o : Src16) (s : State) : Result := .next (compare16 s.iy o s)

/-- TST, Test for Zero or Minus (R358). -/
def execTst (o : RmwAddr) (s : State) : Result := .next (testByte (rmwAddr o) s)

/-- TSTA, Test A for Zero or Minus (R359). -/
def execTsta (s : State) : Result := .next (s.setCcr (tstFlags s.a s.ccr))

/-- TSTB, Test B for Zero or Minus (R360). -/
def execTstb (s : State) : Result := .next (s.setCcr (tstFlags s.b s.ccr))

end Sys2Proof.Machine
end

