-- ==== Sys2Proof/Machine/IncDec.lean ====
section
/-! DEFINITION. Increment, decrement, clear and set instructions: the meaning of each, entered with PC past the
instruction (00_scope.md R4; log entry 16). Rules of 43_incdec_clear_set.md. -/

namespace Sys2Proof.Machine

/-- DEC, Decrement Memory Byte (R280). -/
def execDec (o : RmwAddr) (s : State) : Result := .next (modify decOp (rmwAddr o) s)

/-- DECA, Decrement Accumulator A (R281). -/
def execDeca (s : State) : Result := .next (modifyA decOp s)

/-- DECB, Decrement Accumulator B (R282). -/
def execDecb (s : State) : Result := .next (modifyB decOp s)

/-- DES, Decrement Stack Pointer (R283). -/
def execDes (s : State) : Result := .next (s.setSP (s.sp - 1#16))

/-- DEX, Decrement Index Register X (R284). -/
def execDex (s : State) : Result := .next ((s.setIX (s.ix - 1#16)).setCcr (zOnly16 (s.ix - 1#16) s.ccr))

/-- DEY, Decrement Index Register Y (R285). -/
def execDey (s : State) : Result := .next ((s.setIY (s.iy - 1#16)).setCcr (zOnly16 (s.iy - 1#16) s.ccr))

/-- INC, Increment Memory Byte (R286). -/
def execInc (o : RmwAddr) (s : State) : Result := .next (modify incOp (rmwAddr o) s)

/-- INCA, Increment Accumulator A (R287). -/
def execInca (s : State) : Result := .next (modifyA incOp s)

/-- INCB, Increment Accumulator B (R288). -/
def execIncb (s : State) : Result := .next (modifyB incOp s)

/-- INS, Stack Pointer Increment (R289). -/
def execIns (s : State) : Result := .next (s.setSP (s.sp + 1#16))

/-- INX, Index Register X Increment (R290). -/
def execInx (s : State) : Result := .next ((s.setIX (s.ix + 1#16)).setCcr (zOnly16 (s.ix + 1#16) s.ccr))

/-- INY, Increment Index Register Y (R291). -/
def execIny (s : State) : Result := .next ((s.setIY (s.iy + 1#16)).setCcr (zOnly16 (s.iy + 1#16) s.ccr))

/-- NOP, No operation (R292). The fetch advanced PC; nothing else happens. -/
def execNop (s : State) : Result := .next s

/-- CLR, Clear Memory Byte (R293). The location is read before it is written. -/
def execClr (o : RmwAddr) (s : State) : Result := .next (modify clrOp (rmwAddr o) s)

/-- CLRA, Clear Accumulator A (R294). -/
def execClra (s : State) : Result := .next (modifyA clrOp s)

/-- CLRB, Clear Accumulator B (R295). -/
def execClrb (s : State) : Result := .next (modifyB clrOp s)

/-- BCLR, Clear Bit(s) (msk) (R296). -/
def execBclr (o : BitAddr) (mm : Byte) (s : State) : Result := .next (modify (bclrOp mm) (bitAddr o) s)

/-- BSET, Set Bit(s) (msk) (R297). -/
def execBset (o : BitAddr) (mm : Byte) (s : State) : Result := .next (modify (bsetOp mm) (bitAddr o) s)

/-- CLC, Clear Carry Bit (R298). -/
def execClc (s : State) : Result := .next (s.setCcr { s.ccr with c := false })

/-- CLI, Clear Interrupt Mask (R299). A change of I from 1 to 0 sets IrqInhibit. -/
def execCli (s : State) : Result :=
  .next ((s.setIrqInhibit (s.ccr.i || s.irqInhibit)).setCcr { s.ccr with i := false })

/-- CLV, Clear Overflow Flag (R300). -/
def execClv (s : State) : Result := .next (s.setCcr { s.ccr with v := false })

/-- SEC, Set Carry (R301). -/
def execSec (s : State) : Result := .next (s.setCcr { s.ccr with c := true })

/-- SEI, Set Interrupt Mask (R302). -/
def execSei (s : State) : Result := .next (s.setCcr { s.ccr with i := true })

/-- SEV, Set Overflow Flag (R303). -/
def execSev (s : State) : Result := .next (s.setCcr { s.ccr with v := true })

end Sys2Proof.Machine
end

