-- ==== Sys2Proof/Machine/Interrupt.lean ====
section
/-! DEFINITION. Interrupt-handling and special instructions: the meaning of each, entered with PC past the
instruction (00_scope.md R4; log entry 16). Rules of 47_interrupt_special.md. -/

namespace Sys2Proof.Machine

/-- RTI, Return from Interrupt (R400). -/
def execRti (s : State) : Result := .next (returnFromTrap s)

/-- SWI, Software Interrupt (R401). PC is the return address. -/
def execSwi (s : State) : Result := .next (trap .swi s.pc s)

/-- WAI, Wait for Interrupt (R402). PC is the return address; the masks change at the wake-up, not here. -/
def execWai (s : State) : Result := .next ((pushFrame s.pc s).setRunState .wait)

/-- STOP, Stop Internal Clocks (R403). With S = 1 a no-operation. The level of XIRQ as STOP is entered is recorded,
since an edge ends STOP (92_eei_decisions.md D15). -/
def execStop (s : State) : Result :=
  .next (if s.ccr.s then s else (s.setRunState .stop).setXirqHeld s.pending.xirq)

/-- TEST, TEST (Only in Address Bus Counts Test Modes) (R404). `s.pc - 1` is the address of the $00 byte (log entry 16). -/
def execTest (s : State) : Result :=
  .next (if s.testMode then s.setRunState .testHang else raiseIllegalOpcode (s.pc - 1#16) s)

end Sys2Proof.Machine
end

