-- ==== Sys2Proof/Machine/Logic.lean ====
section
/-! DEFINITION. Logical and complement instructions: the meaning of each, entered with PC past the
instruction (00_scope.md R4; log entry 16). Rules of 42_logic_complement.md. -/

namespace Sys2Proof.Machine

/-- ANDA, AND A with Memory (R260). -/
def execAnda (o : Src8) (s : State) : Result := .next (aluA andOp o s)

/-- ANDB, AND B with Memory (R261). -/
def execAndb (o : Src8) (s : State) : Result := .next (aluB andOp o s)

/-- EORA, Exclusive OR A with Memory (R262). -/
def execEora (o : Src8) (s : State) : Result := .next (aluA eorOp o s)

/-- EORB, Exclusive OR B with Memory (R263). -/
def execEorb (o : Src8) (s : State) : Result := .next (aluB eorOp o s)

/-- ORAA, OR Accumulator A (Inclusive) (R264). -/
def execOraa (o : Src8) (s : State) : Result := .next (aluA oraOp o s)

/-- ORAB, OR Accumulator B (Inclusive) (R265). -/
def execOrab (o : Src8) (s : State) : Result := .next (aluB oraOp o s)

/-- COM, Ones Complement Memory Byte (R266). -/
def execCom (o : RmwAddr) (s : State) : Result := .next (modify comOp (rmwAddr o) s)

/-- COMA, Ones Complement A (R267). -/
def execComa (s : State) : Result := .next (modifyA comOp s)

/-- COMB, Ones Complement B (R268). -/
def execComb (s : State) : Result := .next (modifyB comOp s)

/-- NEG, Two's Complement Memory Byte (R269). -/
def execNeg (o : RmwAddr) (s : State) : Result := .next (modify negOp (rmwAddr o) s)

/-- NEGA, Two's Complement A (R270). -/
def execNega (s : State) : Result := .next (modifyA negOp s)

/-- NEGB, Two's Complement B (R271). -/
def execNegb (s : State) : Result := .next (modifyB negOp s)

end Sys2Proof.Machine
end

