-- ==== Sys2Proof/Machine/ShiftRotate.lean ====
section
/-! DEFINITION. Shifts and rotates instructions: the meaning of each, entered with PC past the
instruction (00_scope.md R4; log entry 16). Rules of 41_shift_rotate.md. -/

namespace Sys2Proof.Machine

/-- D one place left, 0 entering at bit 0, bit 15 leaving to C (R233, R240). -/
def shiftLeftD (s : State) : State := (s.setD (s.d <<< 1)).setCcr (shiftFlags16 (s.d <<< 1) s.d.msb s.ccr)

/-- D one place right, 0 entering at bit 15, bit 0 leaving to C (R244). -/
def shiftRightD (s : State) : State :=
  (s.setD (s.d >>> 1)).setCcr (shiftFlags16 (s.d >>> 1) (s.d.getLsbD 0) s.ccr)

/-- ASL, Arithmetic Shift Left (R230). -/
def execAsl (o : RmwAddr) (s : State) : Result := .next (modify aslOp (rmwAddr o) s)

/-- ASLA, Arithmetic Shift Left A (R231). -/
def execAsla (s : State) : Result := .next (modifyA aslOp s)

/-- ASLB, Arithmetic Shift Left B (R232). -/
def execAslb (s : State) : Result := .next (modifyB aslOp s)

/-- ASLD, Arithmetic Shift Left D (R233). -/
def execAsld (s : State) : Result := .next (shiftLeftD s)

/-- ASR, Arithmetic Shift Right (R234). -/
def execAsr (o : RmwAddr) (s : State) : Result := .next (modify asrOp (rmwAddr o) s)

/-- ASRA, Arithmetic Shift Right A (R235). -/
def execAsra (s : State) : Result := .next (modifyA asrOp s)

/-- ASRB, Arithmetic Shift Right B (R236). -/
def execAsrb (s : State) : Result := .next (modifyB asrOp s)

/-- LSL, Logical Shift Left (R237). -/
def execLsl (o : RmwAddr) (s : State) : Result := .next (modify aslOp (rmwAddr o) s)

/-- LSLA, Logical Shift Left A (R238). -/
def execLsla (s : State) : Result := .next (modifyA aslOp s)

/-- LSLB, Logical Shift Left B (R239). -/
def execLslb (s : State) : Result := .next (modifyB aslOp s)

/-- LSLD, Logical Shift Left Double (R240). -/
def execLsld (s : State) : Result := .next (shiftLeftD s)

/-- LSR, Logical Shift Right (R241). -/
def execLsr (o : RmwAddr) (s : State) : Result := .next (modify lsrOp (rmwAddr o) s)

/-- LSRA, Logical Shift Right A (R242). -/
def execLsra (s : State) : Result := .next (modifyA lsrOp s)

/-- LSRB, Logical Shift Right B (R243). -/
def execLsrb (s : State) : Result := .next (modifyB lsrOp s)

/-- LSRD, Logical Shift Right Double (R244). -/
def execLsrd (s : State) : Result := .next (shiftRightD s)

/-- ROL, Rotate Left (R245). -/
def execRol (o : RmwAddr) (s : State) : Result := .next (modify rolOp (rmwAddr o) s)

/-- ROLA, Rotate Left A (R246). -/
def execRola (s : State) : Result := .next (modifyA rolOp s)

/-- ROLB, Rotate Left B (R247). -/
def execRolb (s : State) : Result := .next (modifyB rolOp s)

/-- ROR, Rotate Right (R248). -/
def execRor (o : RmwAddr) (s : State) : Result := .next (modify rorOp (rmwAddr o) s)

/-- RORA, Rotate Right A (R249). -/
def execRora (s : State) : Result := .next (modifyA rorOp s)

/-- RORB, Rotate Right B (R250). -/
def execRorb (s : State) : Result := .next (modifyB rorOp s)

end Sys2Proof.Machine
end

