-- ==== Sys2Proof/Machine/Transfer.lean ====
section
/-! DEFINITION. Data transfer instructions: the meaning of each, entered with PC past the
instruction (00_scope.md R4; log entry 16). Rules of 44_transfer.md. -/

namespace Sys2Proof.Machine

/-- LDAA, Load Accumulator A (R310). -/
def execLdaa (o : Src8) (s : State) : Result := .next (aluA loadOp o s)

/-- LDAB, Load Accumulator B (R311). -/
def execLdab (o : Src8) (s : State) : Result := .next (aluB loadOp o s)

/-- LDD, Load Double Accumulator D (R312). -/
def execLdd (o : Src16) (s : State) : Result := .next (load16 State.setD o s)

/-- LDS, Load Stack Pointer (R313). -/
def execLds (o : Src16) (s : State) : Result := .next (load16 State.setSP o s)

/-- LDX, Load Index Register X (R314). -/
def execLdx (o : Src16) (s : State) : Result := .next (load16 State.setIX o s)

/-- LDY, Load Index Register Y (R315). -/
def execLdy (o : Src16) (s : State) : Result := .next (load16 State.setIY o s)

/-- STAA, Store Accumulator A (R316). -/
def execStaa (o : Addr) (s : State) : Result := .next (store8 s.a o s)

/-- STAB, Store Accumulator B (R317). -/
def execStab (o : Addr) (s : State) : Result := .next (store8 s.b o s)

/-- STD, Store Accumulator D (R318). -/
def execStd (o : Addr) (s : State) : Result := .next (store16 s.d o s)

/-- STS, Store Stack Pointer (R319). -/
def execSts (o : Addr) (s : State) : Result := .next (store16 s.sp o s)

/-- STX, Store Index Register X (R320). -/
def execStx (o : Addr) (s : State) : Result := .next (store16 s.ix o s)

/-- STY, Store Index Register Y (R321). -/
def execSty (o : Addr) (s : State) : Result := .next (store16 s.iy o s)

/-- PSHA, Push A onto Stack (R322). -/
def execPsha (s : State) : Result := .next (push8 s.a s)

/-- PSHB, Push B onto Stack (R323). -/
def execPshb (s : State) : Result := .next (push8 s.b s)

/-- PSHX, Push X onto Stack (Lo First) (R324). -/
def execPshx (s : State) : Result := .next (push16 s.ix s)

/-- PSHY, Push Y onto Stack (Lo First) (R325). -/
def execPshy (s : State) : Result := .next (push16 s.iy s)

/-- PULA, Pull A from Stack (R326). -/
def execPula (s : State) : Result := .next ((pull8 s).2.setA (pull8 s).1)

/-- PULB, Pull B from Stack (R327). -/
def execPulb (s : State) : Result := .next ((pull8 s).2.setB (pull8 s).1)

/-- PULX, Pull X from Stack (Hi First) (R328). -/
def execPulx (s : State) : Result := .next ((pull16 s).2.setIX (pull16 s).1)

/-- PULY, Pull Y from Stack (Hi First) (R329). -/
def execPuly (s : State) : Result := .next ((pull16 s).2.setIY (pull16 s).1)

/-- TAB, Transfer A to B (R330). -/
def execTab (s : State) : Result := .next ((s.setB s.a).setCcr (logic8 s.a s.ccr))

/-- TBA, Transfer B to A (R331). -/
def execTba (s : State) : Result := .next ((s.setA s.b).setCcr (logic8 s.b s.ccr))

/-- TAP, Transfer A to CC Register (R332). A change of I from 1 to 0 sets IrqInhibit; X is never set. -/
def execTap (s : State) : Result :=
  .next ((s.setIrqInhibit ((s.ccr.i && !s.a.getLsbD 4) || s.irqInhibit)).setCcr (s.ccr.load s.a))

/-- TPA, Transfer CC Register to A (R333). -/
def execTpa (s : State) : Result := .next (s.setA s.ccr.toByte)

/-- TSX, Transfer Stack Pointer to X (R334). -/
def execTsx (s : State) : Result := .next (s.setIX (s.sp + 1#16))

/-- TSY, Transfer Stack Pointer to Y (R335). -/
def execTsy (s : State) : Result := .next (s.setIY (s.sp + 1#16))

/-- TXS, Transfer X to Stack Pointer (R336). -/
def execTxs (s : State) : Result := .next (s.setSP (s.ix - 1#16))

/-- TYS, Transfer Y to Stack Pointer (R337). -/
def execTys (s : State) : Result := .next (s.setSP (s.iy - 1#16))

/-- XGDX, Exchange D with X (R338). -/
def execXgdx (s : State) : Result := .next ((s.setD s.ix).setIX s.d)

/-- XGDY, Exchange D with Y (R339). -/
def execXgdy (s : State) : Result := .next ((s.setD s.iy).setIY s.d)

end Sys2Proof.Machine
end

