-- ==== Sys2Proof/Decode.lean ====
section
/-! DEFINITION. Decoding (30_encoding.md R100 to R117), total on any bytes and rejecting by name, and after it the
encoder, written from the Encodings lines of the instruction rules (files 40 to 47). -/

namespace Sys2Proof

open Machine (join hi lo)

/-- The four opcode pages (30_encoding.md R101). -/
inductive Page where
  | page0
  | page1
  | page2
  | page3
deriving DecidableEq, Repr

/-- What decoding answers: an instruction and the bytes after it; too few bytes; or an opcode that its page does
not define (30_encoding.md R102, R116, R117). -/
inductive Decoded where
  | ok (i : Instr) (rest : List Byte)
  | truncated
  | undefinedOpcode (p : Page) (op : Byte)
deriving DecidableEq, Repr

/-- A cell of an opcode map: how many operand bytes follow the opcode, and the instruction they make
(30_encoding.md R102). -/
inductive Row where
  | op0 (i : Instr)
  | op1 (k : Byte → Instr)
  | op2 (k : Byte → Byte → Instr)
  | op3 (k : Byte → Byte → Byte → Instr)

/-- The number of operand bytes (30_encoding.md R102). -/
def Row.operands : Row → Nat
  | .op0 _ => 0
  | .op1 _ => 1
  | .op2 _ => 2
  | .op3 _ => 3

/-- The instruction a cell makes of the bytes after the opcode. -/
def Row.read : Row → List Byte → Decoded
  | .op0 i, rest => .ok i rest
  | .op1 k, b :: rest => .ok (k b) rest
  | .op2 k, b :: c :: rest => .ok (k b c) rest
  | .op3 k, b :: c :: d :: rest => .ok (k b c d) rest
  | _, _ => .truncated

namespace Map

/-! The cells of the maps, by format (30_encoding.md R103 to R109). The digit in a name is the width of the
source operand; `Addr`, `Rmw`, `Bit`, `Branch` name the operand type of stores, of the read-modify-write group,
of BSET and BCLR, and of BRSET and BRCLR. -/

def inh (i : Instr) : Option Row := some (.op0 i)
def rel (k : Byte → Instr) : Option Row := some (.op1 k)
def imm8 (k : Src8 → Instr) : Option Row := some (.op1 fun ii => k (.imm ii))
def dir8 (k : Src8 → Instr) : Option Row := some (.op1 fun dd => k (.mem (.dir dd)))
def ext8 (k : Src8 → Instr) : Option Row := some (.op2 fun hh ll => k (.mem (.ext (join hh ll))))
def indX8 (k : Src8 → Instr) : Option Row := some (.op1 fun ff => k (.mem (.indX ff)))
def indY8 (k : Src8 → Instr) : Option Row := some (.op1 fun ff => k (.mem (.indY ff)))
def imm16 (k : Src16 → Instr) : Option Row := some (.op2 fun jj kk => k (.imm (join jj kk)))
def dir16 (k : Src16 → Instr) : Option Row := some (.op1 fun dd => k (.mem (.dir dd)))
def ext16 (k : Src16 → Instr) : Option Row := some (.op2 fun hh ll => k (.mem (.ext (join hh ll))))
def indX16 (k : Src16 → Instr) : Option Row := some (.op1 fun ff => k (.mem (.indX ff)))
def indY16 (k : Src16 → Instr) : Option Row := some (.op1 fun ff => k (.mem (.indY ff)))
def dirAddr (k : Addr → Instr) : Option Row := some (.op1 fun dd => k (.dir dd))
def extAddr (k : Addr → Instr) : Option Row := some (.op2 fun hh ll => k (.ext (join hh ll)))
def indXAddr (k : Addr → Instr) : Option Row := some (.op1 fun ff => k (.indX ff))
def indYAddr (k : Addr → Instr) : Option Row := some (.op1 fun ff => k (.indY ff))
def extRmw (k : RmwAddr → Instr) : Option Row := some (.op2 fun hh ll => k (.ext (join hh ll)))
def indXRmw (k : RmwAddr → Instr) : Option Row := some (.op1 fun ff => k (.indX ff))
def indYRmw (k : RmwAddr → Instr) : Option Row := some (.op1 fun ff => k (.indY ff))
def dirBit (k : BitAddr → Byte → Instr) : Option Row := some (.op2 fun dd mm => k (.dir dd) mm)
def indXBit (k : BitAddr → Byte → Instr) : Option Row := some (.op2 fun ff mm => k (.indX ff) mm)
def indYBit (k : BitAddr → Byte → Instr) : Option Row := some (.op2 fun ff mm => k (.indY ff) mm)
def dirBranch (k : BitAddr → Byte → Byte → Instr) : Option Row := some (.op3 fun dd mm rr => k (.dir dd) mm rr)
def indXBranch (k : BitAddr → Byte → Byte → Instr) : Option Row := some (.op3 fun ff mm rr => k (.indX ff) mm rr)
def indYBranch (k : BitAddr → Byte → Byte → Instr) : Option Row := some (.op3 fun ff mm rr => k (.indY ff) mm rr)

/-! Page 0 as 30_encoding.md R111 prints it: one list per low digit, its sixteen columns the high digits. -/

def page0Row0 : List (Option Row) :=
  [inh .test, inh .sba, rel .bra, inh .tsx, inh .nega, inh .negb, indXRmw .neg, extRmw .neg, imm8 .suba,
   dir8 .suba, indX8 .suba, ext8 .suba, imm8 .subb, dir8 .subb, indX8 .subb, ext8 .subb]

def page0Row1 : List (Option Row) :=
  [inh .nop, inh .cba, rel .brn, inh .ins, none, none, none, none, imm8 .cmpa, dir8 .cmpa, indX8 .cmpa,
   ext8 .cmpa, imm8 .cmpb, dir8 .cmpb, indX8 .cmpb, ext8 .cmpb]

def page0Row2 : List (Option Row) :=
  [inh .idiv, dirBranch .brset, rel .bhi, inh .pula, none, none, none, none, imm8 .sbca, dir8 .sbca,
   indX8 .sbca, ext8 .sbca, imm8 .sbcb, dir8 .sbcb, indX8 .sbcb, ext8 .sbcb]

def page0Row3 : List (Option Row) :=
  [inh .fdiv, dirBranch .brclr, rel .bls, inh .pulb, inh .coma, inh .comb, indXRmw .com, extRmw .com,
   imm16 .subd, dir16 .subd, indX16 .subd, ext16 .subd, imm16 .addd, dir16 .addd, indX16 .addd, ext16 .addd]

def page0Row4 : List (Option Row) :=
  [inh .lsrd, dirBit .bset, rel .bcc, inh .des, inh .lsra, inh .lsrb, indXRmw .lsr, extRmw .lsr, imm8 .anda,
   dir8 .anda, indX8 .anda, ext8 .anda, imm8 .andb, dir8 .andb, indX8 .andb, ext8 .andb]

def page0Row5 : List (Option Row) :=
  [inh .asld, dirBit .bclr, rel .bcs, inh .txs, none, none, none, none, imm8 .bita, dir8 .bita, indX8 .bita,
   ext8 .bita, imm8 .bitb, dir8 .bitb, indX8 .bitb, ext8 .bitb]

def page0Row6 : List (Option Row) :=
  [inh .tap, inh .tab, rel .bne, inh .psha, inh .rora, inh .rorb, indXRmw .ror, extRmw .ror, imm8 .ldaa,
   dir8 .ldaa, indX8 .ldaa, ext8 .ldaa, imm8 .ldab, dir8 .ldab, indX8 .ldab, ext8 .ldab]

def page0Row7 : List (Option Row) :=
  [inh .tpa, inh .tba, rel .beq, inh .pshb, inh .asra, inh .asrb, indXRmw .asr, extRmw .asr, none,
   dirAddr .staa, indXAddr .staa, extAddr .staa, none, dirAddr .stab, indXAddr .stab, extAddr .stab]

def page0Row8 : List (Option Row) :=
  [inh .inx, none, rel .bvc, inh .pulx, inh .asla, inh .aslb, indXRmw .asl, extRmw .asl, imm8 .eora,
   dir8 .eora, indX8 .eora, ext8 .eora, imm8 .eorb, dir8 .eorb, indX8 .eorb, ext8 .eorb]

def page0Row9 : List (Option Row) :=
  [inh .dex, inh .daa, rel .bvs, inh .rts, inh .rola, inh .rolb, indXRmw .rol, extRmw .rol, imm8 .adca,
   dir8 .adca, indX8 .adca, ext8 .adca, imm8 .adcb, dir8 .adcb, indX8 .adcb, ext8 .adcb]

def page0RowA : List (Option Row) :=
  [inh .clv, none, rel .bpl, inh .abx, inh .deca, inh .decb, indXRmw .dec, extRmw .dec, imm8 .oraa,
   dir8 .oraa, indX8 .oraa, ext8 .oraa, imm8 .orab, dir8 .orab, indX8 .orab, ext8 .orab]

def page0RowB : List (Option Row) :=
  [inh .sev, inh .aba, rel .bmi, inh .rti, none, none, none, none, imm8 .adda, dir8 .adda, indX8 .adda,
   ext8 .adda, imm8 .addb, dir8 .addb, indX8 .addb, ext8 .addb]

def page0RowC : List (Option Row) :=
  [inh .clc, indXBit .bset, rel .bge, inh .pshx, inh .inca, inh .incb, indXRmw .inc, extRmw .inc, imm16 .cpx,
   dir16 .cpx, indX16 .cpx, ext16 .cpx, imm16 .ldd, dir16 .ldd, indX16 .ldd, ext16 .ldd]

def page0RowD : List (Option Row) :=
  [inh .sec, indXBit .bclr, rel .blt, inh .mul, inh .tsta, inh .tstb, indXRmw .tst, extRmw .tst, rel .bsr,
   dirAddr .jsr, indXAddr .jsr, extAddr .jsr, none, dirAddr .std, indXAddr .std, extAddr .std]

def page0RowE : List (Option Row) :=
  [inh .cli, indXBranch .brset, rel .bgt, inh .wai, none, none, indXRmw .jmp, extRmw .jmp, imm16 .lds,
   dir16 .lds, indX16 .lds, ext16 .lds, imm16 .ldx, dir16 .ldx, indX16 .ldx, ext16 .ldx]

def page0RowF : List (Option Row) :=
  [inh .sei, indXBranch .brclr, rel .ble, inh .swi, inh .clra, inh .clrb, indXRmw .clr, extRmw .clr,
   inh .xgdx, dirAddr .sts, indXAddr .sts, extAddr .sts, inh .stop, dirAddr .stx, indXAddr .stx, extAddr .stx]

/-- Page 0 (30_encoding.md R111): by low digit, then by high digit. -/
def page0 : List (List (Option Row)) :=
  [page0Row0, page0Row1, page0Row2, page0Row3, page0Row4, page0Row5, page0Row6, page0Row7,
   page0Row8, page0Row9, page0RowA, page0RowB, page0RowC, page0RowD, page0RowE, page0RowF]

/-! Page 1 (30_encoding.md R112): its 64 non-empty cells, by low digit and then by high digit. -/

def page1Low0to5 : List (Nat × Option Row) :=
  [(0x30, inh .tsy), (0x60, indYRmw .neg), (0xA0, indY8 .suba), (0xE0, indY8 .subb), (0xA1, indY8 .cmpa),
   (0xE1, indY8 .cmpb), (0xA2, indY8 .sbca), (0xE2, indY8 .sbcb), (0x63, indYRmw .com),
   (0xA3, indY16 .subd), (0xE3, indY16 .addd), (0x64, indYRmw .lsr), (0xA4, indY8 .anda),
   (0xE4, indY8 .andb), (0x35, inh .tys), (0xA5, indY8 .bita), (0xE5, indY8 .bitb)]

def page1Low6toA : List (Nat × Option Row) :=
  [(0x66, indYRmw .ror), (0xA6, indY8 .ldaa), (0xE6, indY8 .ldab), (0x67, indYRmw .asr),
   (0xA7, indYAddr .staa), (0xE7, indYAddr .stab), (0x08, inh .iny), (0x38, inh .puly),
   (0x68, indYRmw .asl), (0xA8, indY8 .eora), (0xE8, indY8 .eorb), (0x09, inh .dey), (0x69, indYRmw .rol),
   (0xA9, indY8 .adca), (0xE9, indY8 .adcb), (0x3A, inh .aby), (0x6A, indYRmw .dec), (0xAA, indY8 .oraa),
   (0xEA, indY8 .orab)]

def page1LowBtoF : List (Nat × Option Row) :=
  [(0xAB, indY8 .adda), (0xEB, indY8 .addb), (0x1C, indYBit .bset), (0x3C, inh .pshy), (0x6C, indYRmw .inc),
   (0x8C, imm16 .cpy), (0x9C, dir16 .cpy), (0xAC, indY16 .cpy), (0xBC, ext16 .cpy), (0xEC, indY16 .ldd),
   (0x1D, indYBit .bclr), (0x6D, indYRmw .tst), (0xAD, indYAddr .jsr), (0xED, indYAddr .std),
   (0x1E, indYBranch .brset), (0x6E, indYRmw .jmp), (0xAE, indY16 .lds), (0xCE, imm16 .ldy),
   (0xDE, dir16 .ldy), (0xEE, indY16 .ldy), (0xFE, ext16 .ldy), (0x1F, indYBranch .brclr),
   (0x6F, indYRmw .clr), (0x8F, inh .xgdy), (0xAF, indYAddr .sts), (0xDF, dirAddr .sty),
   (0xEF, indYAddr .sty), (0xFF, extAddr .sty)]

/-- Page 1, prebyte $18 (30_encoding.md R112). -/
def page1 : List (Nat × Option Row) := page1Low0to5 ++ page1Low6toA ++ page1LowBtoF

/-- Page 2, prebyte $1A (30_encoding.md R113). -/
def page2 : List (Nat × Option Row) :=
  [(0x83, imm16 .cpd), (0x93, dir16 .cpd), (0xA3, indX16 .cpd), (0xB3, ext16 .cpd), (0xAC, indX16 .cpy),
   (0xEE, indX16 .ldy), (0xEF, indXAddr .sty)]

/-- Page 3, prebyte $CD (30_encoding.md R114). -/
def page3 : List (Nat × Option Row) :=
  [(0xA3, indY16 .cpd), (0xAC, indY16 .cpx), (0xEE, indY16 .ldx), (0xEF, indYAddr .stx)]

/-- The cell of an opcode in a sparse map; none where the map is empty. -/
def sparse : List (Nat × Option Row) → Nat → Option Row
  | [], _ => none
  | (op, r) :: rest, o => if op = o then r else sparse rest o

end Map

/-- The opcode maps (30_encoding.md R102, R111 to R114): none for an undefined opcode (R116, R117). -/
def lookup (p : Page) (op : Byte) : Option Row :=
  match p with
  | .page0 => (Map.page0.getD (op.toNat % 16) []).getD (op.toNat / 16) none
  | .page1 => Map.sparse Map.page1 op.toNat
  | .page2 => Map.sparse Map.page2 op.toNat
  | .page3 => Map.sparse Map.page3 op.toNat

/-- The page a first byte selects when it is a prebyte (30_encoding.md R101). -/
def prebyte (b0 : Byte) : Option Page :=
  if b0 = 0x18#8 then some .page1
  else if b0 = 0x1A#8 then some .page2
  else if b0 = 0xCD#8 then some .page3
  else none

/-- Decode from the opcode byte on (30_encoding.md R102). -/
def decodeOn (p : Page) (op : Byte) (ops : List Byte) : Decoded :=
  match lookup p op with
  | none => .undefinedOpcode p op
  | some r => r.read ops

/-- Decode the instruction at the head of a list of bytes (30_encoding.md R102). -/
def decode : List Byte → Decoded
  | [] => .truncated
  | b0 :: rest =>
    match prebyte b0 with
    | none => decodeOn .page0 b0 rest
    | some p =>
      match rest with
      | [] => .truncated
      | op :: ops => decodeOn p op ops

/-- How many operand bytes follow an opcode; none follow an undefined one (30_encoding.md R102, R427). -/
def operandBytes (p : Page) (op : Byte) : Nat :=
  match lookup p op with
  | none => 0
  | some r => r.operands

/-! The encoder. The byte lists are prebyte and opcode of each form, as the Encodings line of the instruction's
rule prints them. -/

/-- A 16-bit operand field, high byte first (20_memory.md R63). -/
def encWord (w : Word) : List Byte := [hi w, lo w]

/-- The four address forms (30_encoding.md R105 to R107). -/
def encAddr (o : Addr) (dir ext indX indY : List Byte) : List Byte :=
  match o with
  | .dir dd => dir ++ [dd]
  | .ext hhll => ext ++ encWord hhll
  | .indX ff => indX ++ [ff]
  | .indY ff => indY ++ [ff]

/-- IMM8 or an address form (30_encoding.md R104). -/
def encSrc8 (o : Src8) (imm dir ext indX indY : List Byte) : List Byte :=
  match o with
  | .imm ii => imm ++ [ii]
  | .mem a => encAddr a dir ext indX indY

/-- IMM16 or an address form (30_encoding.md R104). -/
def encSrc16 (o : Src16) (imm dir ext indX indY : List Byte) : List Byte :=
  match o with
  | .imm jjkk => imm ++ encWord jjkk
  | .mem a => encAddr a dir ext indX indY

/-- The three address forms without DIR (30_encoding.md R121). -/
def encRmw (o : RmwAddr) (ext indX indY : List Byte) : List Byte :=
  match o with
  | .ext hhll => ext ++ encWord hhll
  | .indX ff => indX ++ [ff]
  | .indY ff => indY ++ [ff]

/-- The three address forms without EXT (30_encoding.md R109). -/
def encBit (o : BitAddr) (dir indX indY : List Byte) : List Byte :=
  match o with
  | .dir dd => dir ++ [dd]
  | .indX ff => indX ++ [ff]
  | .indY ff => indY ++ [ff]

/-- The bytes of an instruction, at ascending addresses (20_memory.md R63; the Encodings lines of files 40 to 47). -/
def encode : Instr → List Byte
  | .aba => [0x1B#8]
  | .abx => [0x3A#8]
  | .aby => [0x18#8, 0x3A#8]
  | .adca o => encSrc8 o [0x89#8] [0x99#8] [0xB9#8] [0xA9#8] [0x18#8, 0xA9#8]
  | .adcb o => encSrc8 o [0xC9#8] [0xD9#8] [0xF9#8] [0xE9#8] [0x18#8, 0xE9#8]
  | .adda o => encSrc8 o [0x8B#8] [0x9B#8] [0xBB#8] [0xAB#8] [0x18#8, 0xAB#8]
  | .addb o => encSrc8 o [0xCB#8] [0xDB#8] [0xFB#8] [0xEB#8] [0x18#8, 0xEB#8]
  | .addd o => encSrc16 o [0xC3#8] [0xD3#8] [0xF3#8] [0xE3#8] [0x18#8, 0xE3#8]
  | .daa => [0x19#8]
  | .sba => [0x10#8]
  | .sbca o => encSrc8 o [0x82#8] [0x92#8] [0xB2#8] [0xA2#8] [0x18#8, 0xA2#8]
  | .sbcb o => encSrc8 o [0xC2#8] [0xD2#8] [0xF2#8] [0xE2#8] [0x18#8, 0xE2#8]
  | .suba o => encSrc8 o [0x80#8] [0x90#8] [0xB0#8] [0xA0#8] [0x18#8, 0xA0#8]
  | .subb o => encSrc8 o [0xC0#8] [0xD0#8] [0xF0#8] [0xE0#8] [0x18#8, 0xE0#8]
  | .subd o => encSrc16 o [0x83#8] [0x93#8] [0xB3#8] [0xA3#8] [0x18#8, 0xA3#8]
  | .mul => [0x3D#8]
  | .fdiv => [0x03#8]
  | .idiv => [0x02#8]
  | .asl o => encRmw o [0x78#8] [0x68#8] [0x18#8, 0x68#8]
  | .asla => [0x48#8]
  | .aslb => [0x58#8]
  | .asld => [0x05#8]
  | .asr o => encRmw o [0x77#8] [0x67#8] [0x18#8, 0x67#8]
  | .asra => [0x47#8]
  | .asrb => [0x57#8]
  | .lsl o => encRmw o [0x78#8] [0x68#8] [0x18#8, 0x68#8]
  | .lsla => [0x48#8]
  | .lslb => [0x58#8]
  | .lsld => [0x05#8]
  | .lsr o => encRmw o [0x74#8] [0x64#8] [0x18#8, 0x64#8]
  | .lsra => [0x44#8]
  | .lsrb => [0x54#8]
  | .lsrd => [0x04#8]
  | .rol o => encRmw o [0x79#8] [0x69#8] [0x18#8, 0x69#8]
  | .rola => [0x49#8]
  | .rolb => [0x59#8]
  | .ror o => encRmw o [0x76#8] [0x66#8] [0x18#8, 0x66#8]
  | .rora => [0x46#8]
  | .rorb => [0x56#8]
  | .anda o => encSrc8 o [0x84#8] [0x94#8] [0xB4#8] [0xA4#8] [0x18#8, 0xA4#8]
  | .andb o => encSrc8 o [0xC4#8] [0xD4#8] [0xF4#8] [0xE4#8] [0x18#8, 0xE4#8]
  | .eora o => encSrc8 o [0x88#8] [0x98#8] [0xB8#8] [0xA8#8] [0x18#8, 0xA8#8]
  | .eorb o => encSrc8 o [0xC8#8] [0xD8#8] [0xF8#8] [0xE8#8] [0x18#8, 0xE8#8]
  | .oraa o => encSrc8 o [0x8A#8] [0x9A#8] [0xBA#8] [0xAA#8] [0x18#8, 0xAA#8]
  | .orab o => encSrc8 o [0xCA#8] [0xDA#8] [0xFA#8] [0xEA#8] [0x18#8, 0xEA#8]
  | .com o => encRmw o [0x73#8] [0x63#8] [0x18#8, 0x63#8]
  | .coma => [0x43#8]
  | .comb => [0x53#8]
  | .neg o => encRmw o [0x70#8] [0x60#8] [0x18#8, 0x60#8]
  | .nega => [0x40#8]
  | .negb => [0x50#8]
  | .dec o => encRmw o [0x7A#8] [0x6A#8] [0x18#8, 0x6A#8]
  | .deca => [0x4A#8]
  | .decb => [0x5A#8]
  | .des => [0x34#8]
  | .dex => [0x09#8]
  | .dey => [0x18#8, 0x09#8]
  | .inc o => encRmw o [0x7C#8] [0x6C#8] [0x18#8, 0x6C#8]
  | .inca => [0x4C#8]
  | .incb => [0x5C#8]
  | .ins => [0x31#8]
  | .inx => [0x08#8]
  | .iny => [0x18#8, 0x08#8]
  | .nop => [0x01#8]
  | .clr o => encRmw o [0x7F#8] [0x6F#8] [0x18#8, 0x6F#8]
  | .clra => [0x4F#8]
  | .clrb => [0x5F#8]
  | .bclr o mm => encBit o [0x15#8] [0x1D#8] [0x18#8, 0x1D#8] ++ [mm]
  | .bset o mm => encBit o [0x14#8] [0x1C#8] [0x18#8, 0x1C#8] ++ [mm]
  | .clc => [0x0C#8]
  | .cli => [0x0E#8]
  | .clv => [0x0A#8]
  | .sec => [0x0D#8]
  | .sei => [0x0F#8]
  | .sev => [0x0B#8]
  | .ldaa o => encSrc8 o [0x86#8] [0x96#8] [0xB6#8] [0xA6#8] [0x18#8, 0xA6#8]
  | .ldab o => encSrc8 o [0xC6#8] [0xD6#8] [0xF6#8] [0xE6#8] [0x18#8, 0xE6#8]
  | .ldd o => encSrc16 o [0xCC#8] [0xDC#8] [0xFC#8] [0xEC#8] [0x18#8, 0xEC#8]
  | .lds o => encSrc16 o [0x8E#8] [0x9E#8] [0xBE#8] [0xAE#8] [0x18#8, 0xAE#8]
  | .ldx o => encSrc16 o [0xCE#8] [0xDE#8] [0xFE#8] [0xEE#8] [0xCD#8, 0xEE#8]
  | .ldy o => encSrc16 o [0x18#8, 0xCE#8] [0x18#8, 0xDE#8] [0x18#8, 0xFE#8] [0x1A#8, 0xEE#8] [0x18#8, 0xEE#8]
  | .staa o => encAddr o [0x97#8] [0xB7#8] [0xA7#8] [0x18#8, 0xA7#8]
  | .stab o => encAddr o [0xD7#8] [0xF7#8] [0xE7#8] [0x18#8, 0xE7#8]
  | .std o => encAddr o [0xDD#8] [0xFD#8] [0xED#8] [0x18#8, 0xED#8]
  | .sts o => encAddr o [0x9F#8] [0xBF#8] [0xAF#8] [0x18#8, 0xAF#8]
  | .stx o => encAddr o [0xDF#8] [0xFF#8] [0xEF#8] [0xCD#8, 0xEF#8]
  | .sty o => encAddr o [0x18#8, 0xDF#8] [0x18#8, 0xFF#8] [0x1A#8, 0xEF#8] [0x18#8, 0xEF#8]
  | .psha => [0x36#8]
  | .pshb => [0x37#8]
  | .pshx => [0x3C#8]
  | .pshy => [0x18#8, 0x3C#8]
  | .pula => [0x32#8]
  | .pulb => [0x33#8]
  | .pulx => [0x38#8]
  | .puly => [0x18#8, 0x38#8]
  | .tab => [0x16#8]
  | .tba => [0x17#8]
  | .tap => [0x06#8]
  | .tpa => [0x07#8]
  | .tsx => [0x30#8]
  | .tsy => [0x18#8, 0x30#8]
  | .txs => [0x35#8]
  | .tys => [0x18#8, 0x35#8]
  | .xgdx => [0x8F#8]
  | .xgdy => [0x18#8, 0x8F#8]
  | .bita o => encSrc8 o [0x85#8] [0x95#8] [0xB5#8] [0xA5#8] [0x18#8, 0xA5#8]
  | .bitb o => encSrc8 o [0xC5#8] [0xD5#8] [0xF5#8] [0xE5#8] [0x18#8, 0xE5#8]
  | .cba => [0x11#8]
  | .cmpa o => encSrc8 o [0x81#8] [0x91#8] [0xB1#8] [0xA1#8] [0x18#8, 0xA1#8]
  | .cmpb o => encSrc8 o [0xC1#8] [0xD1#8] [0xF1#8] [0xE1#8] [0x18#8, 0xE1#8]
  | .cpd o => encSrc16 o [0x1A#8, 0x83#8] [0x1A#8, 0x93#8] [0x1A#8, 0xB3#8] [0x1A#8, 0xA3#8] [0xCD#8, 0xA3#8]
  | .cpx o => encSrc16 o [0x8C#8] [0x9C#8] [0xBC#8] [0xAC#8] [0xCD#8, 0xAC#8]
  | .cpy o => encSrc16 o [0x18#8, 0x8C#8] [0x18#8, 0x9C#8] [0x18#8, 0xBC#8] [0x1A#8, 0xAC#8] [0x18#8, 0xAC#8]
  | .tst o => encRmw o [0x7D#8] [0x6D#8] [0x18#8, 0x6D#8]
  | .tsta => [0x4D#8]
  | .tstb => [0x5D#8]
  | .bcc rr => [0x24#8] ++ [rr]
  | .bcs rr => [0x25#8] ++ [rr]
  | .beq rr => [0x27#8] ++ [rr]
  | .bne rr => [0x26#8] ++ [rr]
  | .bmi rr => [0x2B#8] ++ [rr]
  | .bpl rr => [0x2A#8] ++ [rr]
  | .bvc rr => [0x28#8] ++ [rr]
  | .bvs rr => [0x29#8] ++ [rr]
  | .bhi rr => [0x22#8] ++ [rr]
  | .bhs rr => [0x24#8] ++ [rr]
  | .blo rr => [0x25#8] ++ [rr]
  | .bls rr => [0x23#8] ++ [rr]
  | .bge rr => [0x2C#8] ++ [rr]
  | .bgt rr => [0x2E#8] ++ [rr]
  | .ble rr => [0x2F#8] ++ [rr]
  | .blt rr => [0x2D#8] ++ [rr]
  | .brclr o mm rr => encBit o [0x13#8] [0x1F#8] [0x18#8, 0x1F#8] ++ [mm, rr]
  | .brset o mm rr => encBit o [0x12#8] [0x1E#8] [0x18#8, 0x1E#8] ++ [mm, rr]
  | .bra rr => [0x20#8] ++ [rr]
  | .brn rr => [0x21#8] ++ [rr]
  | .bsr rr => [0x8D#8] ++ [rr]
  | .jmp o => encRmw o [0x7E#8] [0x6E#8] [0x18#8, 0x6E#8]
  | .jsr o => encAddr o [0x9D#8] [0xBD#8] [0xAD#8] [0x18#8, 0xAD#8]
  | .rts => [0x39#8]
  | .rti => [0x3B#8]
  | .swi => [0x3F#8]
  | .wai => [0x3E#8]
  | .stop => [0xCF#8]
  | .test => [0x00#8]

/-! What the host asks of the decoder. -/

/-- The `n` bytes of a number, the most significant first: how spec/opcode_table.json reads an instruction
("the instruction's bytes read as one big-endian number", 30_encoding.md). -/
def bytesHighFirst : Nat → Nat → List Byte
  | 0, _ => []
  | n + 1, w => BitVec.ofNat 8 (w / 256 ^ n) :: bytesHighFirst n w

/-- The `n` bytes of a number, the least significant first. -/
def bytesLowFirst : Nat → Nat → List Byte
  | 0, _ => []
  | n + 1, w => BitVec.ofNat 8 w :: bytesLowFirst n (w / 256)

/-- The longest instruction is 5 bytes (30_encoding.md R100): zeros up to there. -/
def padded (bs : List Byte) : List Byte := bs ++ List.replicate (5 - bs.length) 0#8

/-- Whether decoding takes exactly the first `n` bytes. -/
def takesExactly (n : Nat) (bs : List Byte) : Bool :=
  match decode bs with
  | .ok _ rest => decide (rest.length + n = bs.length)
  | _ => false

/-- The bytes of a table word, as the hardware stores them, zeros after them. The word is read as the table
numbers it, its first byte the most significant; only where that is no instruction of `nbits` bits is it read
with the first byte the least significant (log entry 17). -/
def tableWordBytes (nbits w : Nat) : List Byte :=
  let n := nbits / 8
  let high := padded (bytesHighFirst n w)
  let low := padded (bytesLowFirst n w)
  if takesExactly n high then high else if takesExactly n low then low else high

/-- The instruction the decoder reads from a table word; none where it refuses. -/
def decodeTableWord (nbits w : Nat) : Option Instr :=
  match decode (tableWordBytes nbits w) with
  | .ok i _ => some i
  | _ => none

end Sys2Proof
end

