-- ==== Sys2Proof/Machine/Fetch.lean ====
section
/-! DEFINITION. Fetching and decoding the next instruction through the memory map (00_scope.md R4,
30_encoding.md R102). -/

namespace Sys2Proof.Machine

/-- `fetch8()`: the byte at PC, and the state with PC past it (00_scope.md R4). -/
def fetch8 (s : State) : Byte × State :=
  let m := readByte s.pc s
  (m.1, m.2.setPC (m.2.pc + 1#16))

/-- `n` bytes of the instruction stream, in ascending address order (00_scope.md R4). -/
def fetchBytes : Nat → State → List Byte × State
  | 0, s => ([], s)
  | n + 1, s =>
    let b := fetch8 s
    let rest := fetchBytes n b.2
    (b.1 :: rest.1, rest.2)

/-- The operand bytes of an opcode; none are fetched after an undefined one (60_exceptions.md R427). -/
def fetchOperands (p : Page) (op : Byte) (s : State) : Decoded × State :=
  let ops := fetchBytes (operandBytes p op) s
  (decodeOn p op ops.1, ops.2)

/-- Fetch and decode: prebyte if there is one, opcode, operand bytes (30_encoding.md R102). -/
def fetchInstr (s : State) : Decoded × State :=
  let b0 := fetch8 s
  match prebyte b0.1 with
  | none => fetchOperands .page0 b0.1 b0.2
  | some p =>
    let op := fetch8 b0.2
    fetchOperands p op.1 op.2

/-- The memory with bytes placed from PC on, whatever the memory map says of the place: a launch, not a store
(70_reset_and_hazards.md R471; log entry 18). -/
def placeBytes (bs : List Byte) (s : State) : State := s.setMem (Memory.load s.mem s.pc bs)

end Sys2Proof.Machine
end

