-- ==== Sys2Proof/Machine/Execute.lean ====
section
/-! DEFINITION. Executing one instruction, and carrying out what a boundary chose (60_exceptions.md R423, R437). -/

namespace Sys2Proof.Machine

/-- "Execute one instruction": fetch, decode, and the meaning; an undefined opcode raises IllegalOpcode with the
address of its first byte (60_exceptions.md R423, R427). -/
def executeOne (s : State) : Result :=
  match fetchInstr s with
  | (.ok i _, t) => exec i t
  | (.truncated, t) => .next (raiseIllegalOpcode s.pc t)
  | (.undefinedOpcode _ _, t) => .next (raiseIllegalOpcode s.pc t)

/-- Carry out an event. Executing clears the inhibit first (60_exceptions.md R423). -/
def perform (e : Event) (s : State) : Result :=
  match e with
  | .reset k => .next (takeReset k s)
  | .trap k => .next (trap k s.pc s)
  | .wake k => .next (enterHandler k s)
  | .resume => .next (s.setRunState .run)
  | .execute => executeOne (s.setIrqInhibit false)
  | .idle => .next (watchXirq s)

end Sys2Proof.Machine
end

