-- ==== Sys2Proof/Machine/Step.lean ====
section
/-! DEFINITION. One step of the machine (60_exceptions.md R423, R437), and the host's way to place an
instruction. -/

namespace Sys2Proof.Machine

/-- The step function: what the boundary chooses, carried out (60_exceptions.md R423, R437). -/
def step (s : State) : Host.Outcome State Fault Refusal := perform (nextEvent s) s

/-- `s` with an instruction placed where the next step fetches it (log entries 17 and 18). -/
def State.withFetchWord (s : State) (nbits w : Nat) : State := placeBytes (tableWordBytes nbits w) s

end Sys2Proof.Machine
end

