-- ==== Sys2Proof/Safety.lean ====
section
/-! DEFINITION. The terms in which claims about the machine are made: what an instruction may leave changed, what
the invariant of every step is, where code stands, and which states are final (70_reset_and_hazards.md R470). -/

namespace Sys2Proof.Machine

/-- What accesses to memory and devices may change, wherever they go: the contents of RAM, and the requests, the
requested resets, the devices' state and the count of free values. Every register, flag, mode and parameter is as in
`s`, and so is every byte of memory that is not RAM; memory in canonical form stays so (20_memory.md R67, R69; log
entry 1, and for IO addresses log entry 6). -/
structure OnlyAccess (s t : State) : Prop where
  fields : t = { s with
    mem := t.mem, pending := t.pending, resets := t.resets, device := t.device, draws := t.draws }
  fixed : ∀ x : Word, s.kind x ≠ .ram → t.mem.byteAt x = s.mem.byteAt x
  canonical : s.mem.wf = true → t.mem.wf = true

/-- None of the addresses is a device's. -/
def NoIO (s : State) (as : List Word) : Prop := ∀ a ∈ as, s.kind a ≠ .io

/-- What reads of the addresses `as` may change: where none is a device's, the count of free values alone; where one
is, what accesses may change (20_memory.md R67, R69). -/
structure OnlyReads (as : List Word) (s t : State) : Prop where
  access : OnlyAccess s t
  plain : NoIO s as → t = { s with draws := t.draws }

/-- `n` addresses from `a` on, modulo 2^16. -/
def addressRun : Nat → Word → List Word
  | 0, _ => []
  | n + 1, a => a :: addressRun n (a + 1#16)

/-- The addresses that reading an operand reads (30_encoding.md R110). -/
def reads8 (o : Src8) (s : State) : List Word :=
  match o with
  | .imm _ => []
  | .mem a => [ea a s]

/-- The addresses that reading a 16-bit operand reads, in order (30_encoding.md R110). -/
def reads16 (o : Src16) (s : State) : List Word :=
  match o with
  | .imm _ => []
  | .mem a => [ea a s, ea a s + 1#16]

/-- The byte at `x` after the listed bytes have been stored over `old`. -/
def storedAt : List (Word × Byte) → Word → Byte → Byte
  | [], _, old => old
  | (k, v) :: rest, x, old => if k = x then v else storedAt rest x old

/-- Memory of `t` is that of `s` with the listed bytes stored at the listed addresses, as far as they are RAM;
every other byte is unchanged (20_memory.md R69). -/
def Stored (l : List (Word × Byte)) (s t : State) : Prop :=
  ∀ x : Word, t.mem.byteAt x = if s.kind x = .ram then storedAt l x (s.mem.byteAt x) else s.mem.byteAt x

/-- Where none of the addresses `as` is a device's, the listed bytes are stored and no other byte of memory changes,
and the requests, the requested resets and the devices' state are as before (20_memory.md R69). -/
def StoresOnly (as : List Word) (l : List (Word × Byte)) (s t : State) : Prop :=
  NoIO s as → Stored l s t ∧ t.pending = s.pending ∧ t.resets = s.resets ∧ t.device = s.device

/-- The listed bytes written one after another, each where it goes: RAM, ROM, a device or nothing. -/
def writeAll : List (Word × Byte) → State → State
  | [], s => s
  | (a, v) :: rest, s => writeAll rest (writeByte a v s)

/-- Instruction `i` reads the byte at the address of form `o` and writes `result` once to the same address, with
CCR becoming `flags`: it answers that next state, no other register or flag changes, and, off the devices, only that
byte of memory (20_memory.md R66). -/
def ReadsThenWrites (i : Instr) (o : Addr) (result : Byte) (flags : Ccr) (s : State) : Prop :=
  let u := writeByte (ea o s) result { (readByte (ea o s) s).2 with ccr := flags }
  exec i s = .next u ∧ OnlyAccess { s with ccr := flags } u ∧ StoresOnly [ea o s] [(ea o s, result)] s u

/-- Instruction `i` answers a next state: `s'` with the listed bytes written in order. No other register or flag
changes and, off the devices, no other byte of memory. -/
def StoresAs (i : Instr) (l : List (Word × Byte)) (s s' : State) : Prop :=
  let u := writeAll l s'
  exec i s = .next u ∧ OnlyAccess s' u ∧ StoresOnly (l.map Prod.fst) l s u

/-- The nine-byte frame of 60_exceptions.md R424: each address with its content, in the order of the pushes, `s` the
state before. -/
def frameBytes (ret : Word) (s : State) : List (Word × Byte) :=
  [(s.sp, lo ret), (s.sp - 1#16, hi ret), (s.sp - 2#16, lo s.iy), (s.sp - 3#16, hi s.iy),
   (s.sp - 4#16, lo s.ix), (s.sp - 5#16, hi s.ix), (s.sp - 6#16, s.a), (s.sp - 7#16, s.b),
   (s.sp - 8#16, s.ccr.toByte)]

/-- Plain storage: RAM or ROM (20_memory.md R69). -/
def Storage (s : State) (a : Word) : Prop := s.kind a = .ram ∨ s.kind a = .rom

/-- The bytes stand in storage from an address on. -/
def CodeAt (s : State) : Word → List Byte → Prop
  | _, [] => True
  | a, b :: rest => Storage s a ∧ s.mem.byteAt a = b ∧ CodeAt s (a + 1#16) rest

/-- `n` byte reads at ascending addresses, each after the one before (20_memory.md R71). -/
def readRun : Nat → Word → State → List Byte × State
  | 0, _, s => ([], s)
  | n + 1, a, s =>
    let b := readByte a s
    let rest := readRun n (a + 1#16) b.2
    (b.1 :: rest.1, rest.2)

/-- The packed-BCD byte of a number below 100. -/
def packedDecimal (n : Nat) : Byte := BitVec.ofNat 8 (16 * (n / 10) + n % 10)

/-- What every step keeps: memory in canonical form; the inhibit set only while instructions run with I clear
(10_state.md R40); STOP only with S clear (47_interrupt_special.md R403); TESTHANG only in test mode (R404). -/
structure Inv (s : State) : Prop where
  memory : s.mem.wf = true
  inhibit : s.irqInhibit = true → s.runState = .run ∧ s.ccr.i = false
  stopped : s.runState = .stop → s.ccr.s = false
  hang : s.runState = .testHang → s.testMode = true

/-- No reset is requested and no request is let through by the current I and X (70_reset_and_hazards.md R470). -/
def Quiet (s : State) : Prop :=
  requestedReset s.resets = none ∧ xirqTaken s = false ∧ irqTaken s = none

/-- The self-loop of R470: `BRA *` or `JMP *` in storage, nothing let through, no inhibit. -/
def SelfLoop (s : State) : Prop :=
  s.runState = .run ∧ s.irqInhibit = false ∧ Quiet s ∧
    (CodeAt s s.pc [0x20#8, 0xFE#8] ∨ CodeAt s s.pc [0x7E#8, hi s.pc, lo s.pc])

/-- The final states of R470, the fault row apart (the machine has no fault). -/
def Final (s : State) : Prop :=
  SelfLoop s ∨ (s.runState ≠ .run ∧ nextEvent s = .idle)

end Sys2Proof.Machine
end

