-- ==== Sys2Proof/WellFormed.lean ====
section
/-! DEFINITION. Well-formed instructions. The operand types already hold only the forms the spec gives, and
every operand is a whole byte or word, so the one thing left to check is the name: an alias mnemonic
(30_encoding.md R120) names bytes that decode to its core instruction, never to itself. -/

namespace Sys2Proof

/-- The core instruction whose bytes an instruction shares: an alias mnemonic goes to the mnemonic it assembles
as (30_encoding.md R120), everything else to itself. -/
def Instr.core : Instr → Instr
  | .lsl o => .asl o
  | .lsla => .asla
  | .lslb => .aslb
  | .lsld => .asld
  | .bhs rr => .bcc rr
  | .blo rr => .bcs rr
  | i => i

/-- An instruction that a decoder can answer: it is no alias mnemonic ("A disassembler cannot tell the two
names apart", 30_encoding.md R120; log entry 20). -/
abbrev Instr.WellFormed (i : Instr) : Prop := i.core = i

end Sys2Proof
end

