-- ==== Sys2Proof/Certificates/Slice0/Obligations.lean ====
section
/-! DEFINITION. The statements for the provers. Flags and results are given by formulas of their own (two's
complement integers, unsigned numbers), not by the functions the meanings use. In every statement, what an access
to a device's address may change (OnlyAccess, the condition NoIO of OnlyReads and StoresOnly, Safety.lean) is the
model's form of 20_memory.md R67 (log entry 6), and the free value that a read of an Unmapped address counts is log
entries 5 and 13. -/

open Sys2Proof Sys2Proof.Machine

/-! ## Encoding -/

/-- Every byte sequence of every well-formed instruction decodes to that instruction and leaves the rest. -/
def Obligations.DecodeOfEncode : Prop :=
  ∀ (i : Instr) (rest : List Byte), i.WellFormed → decode (encode i ++ rest) = .ok i rest

/-- Each instruction has one spelling: whatever decodes to it is its encoding, and no alias is ever decoded. -/
def Obligations.EncodeOfDecode : Prop :=
  ∀ (bs : List Byte) (i : Instr) (rest : List Byte),
    decode bs = .ok i rest → bs = encode i ++ rest ∧ i.WellFormed

/-- R101, R116, R117: the twenty undefined opcodes of page 0, how many opcodes each page defines, and that a prebyte
value is an opcode on none. -/
def Obligations.OpcodeMaps : Prop :=
  let defined (p : Page) : Nat := ((List.range 256).filter fun n => (lookup p (BitVec.ofNat 8 n)).isSome).length
  (∀ (b : Byte) (rest : List Byte), decode (b :: rest) = .undefinedOpcode .page0 b ↔
    b ∈ [0x41#8, 0x42#8, 0x45#8, 0x4B#8, 0x4E#8, 0x51#8, 0x52#8, 0x55#8, 0x5B#8, 0x5E#8,
         0x61#8, 0x62#8, 0x65#8, 0x6B#8, 0x71#8, 0x72#8, 0x75#8, 0x7B#8, 0x87#8, 0xC7#8]) ∧
  defined .page0 = 233 ∧ defined .page1 = 64 ∧ defined .page2 = 7 ∧ defined .page3 = 4 ∧
  ∀ p, lookup p 0x18#8 = none ∧ lookup p 0x1A#8 = none ∧ lookup p 0xCD#8 = none

/-- Words written out from the opcode maps and the Encodings lines, one for each family and operand form. -/
def Obligations.DecodeSampleWords : Prop :=
  decode [0x1B#8] = .ok .aba [] ∧
  decode [0x8B#8, 0x2C#8] = .ok (.adda (.imm 0x2C#8)) [] ∧
  decode [0xD3#8, 0x40#8] = .ok (.addd (.mem (.dir 0x40#8))) [] ∧
  decode [0x18#8, 0x68#8, 0x05#8] = .ok (.asl (.indY 0x05#8)) [] ∧
  decode [0xB4#8, 0x12#8, 0x34#8] = .ok (.anda (.mem (.ext 0x1234#16))) [] ∧
  decode [0x18#8, 0x1C#8, 0x00#8, 0x08#8] = .ok (.bset (.indY 0x00#8) 0x08#8) [] ∧
  decode [0xCD#8, 0xEE#8, 0x07#8] = .ok (.ldx (.mem (.indY 0x07#8))) [] ∧
  decode [0x1A#8, 0x83#8, 0x10#8, 0x00#8] = .ok (.cpd (.imm 0x1000#16)) [] ∧
  decode [0x18#8, 0x1E#8, 0x00#8, 0x80#8, 0x02#8] = .ok (.brset (.indY 0x00#8) 0x80#8 0x02#8) [] ∧
  decode [0x9D#8, 0x20#8] = .ok (.jsr (.dir 0x20#8)) [] ∧
  decode [0x3B#8] = .ok .rti []

/-! ## Operands and memory -/

/-- R105, R106, R107: the effective address of each form; the indexed offset is unsigned and the sum wraps. -/
def Obligations.EffectiveAddresses : Prop :=
  ∀ (s : State) (dd ff : Byte) (hhll : Word),
    (ea (.dir dd) s).toNat = dd.toNat ∧ ea (.ext hhll) s = hhll ∧
    (ea (.indX ff) s).toNat = (s.ix.toNat + ff.toNat) % 65536 ∧
    (ea (.indY ff) s).toNat = (s.iy.toNat + ff.toNat) % 65536

/-- R110: what an operand is. An immediate is the operand field itself; a memory operand is what a read of the
effective address gives, which on storage is the byte (or the two bytes, high byte first) standing there. Reading it
changes no register or flag. That it changes no byte of memory, no request and no device either where none of its
addresses is a device's, and only what accesses may change where one is, is the model's form of devices (log entry
6); that a read of an Unmapped address counts a free value is the model's too (log entries 5 and 13). -/
def Obligations.OperandValues : Prop :=
  ∀ (s : State),
    (∀ ii, operand8 (.imm ii) s = (ii, s)) ∧ (∀ jjkk, operand16 (.imm jjkk) s = (jjkk, s)) ∧
    (∀ a, operand8 (.mem a) s = readByte (ea a s) s) ∧ (∀ a, operand16 (.mem a) s = readWord (ea a s) s) ∧
    (∀ o, OnlyReads (reads8 o s) s (operand8 o s).2) ∧ (∀ o, OnlyReads (reads16 o s) s (operand16 o s).2) ∧
    (∀ a, Storage s a → readByte a s = (s.mem.byteAt a, s)) ∧
    (∀ a, Storage s a → Storage s (a + 1#16) →
      (readWord a s).2 = s ∧
      (readWord a s).1.toNat = 256 * (s.mem.byteAt a).toNat + (s.mem.byteAt (a + 1#16)).toNat)

/-- R69: the four kinds of memory. That an access to an IO address can change RAM, the requests, the requested resets
and the devices' state, and neither a register nor a byte that is not RAM, is the model's form of R67's "any effect
the device defines" (log entry 6). -/
def Obligations.MemoryKinds : Prop :=
  ∀ (s : State) (a : Word) (v : Byte),
    (s.kind a = .ram → s.mem.wf = true →
      readByte a (writeByte a v s) = (v, writeByte a v s) ∧
      writeByte a v s = { s with mem := (writeByte a v s).mem } ∧ Stored [(a, v)] s (writeByte a v s)) ∧
    (s.kind a = .rom → readByte a s = (s.mem.byteAt a, s) ∧ writeByte a v s = s) ∧
    (s.kind a = .unmapped → (∃ b, readByte a s = (b, { s with draws := s.draws + 1 })) ∧ writeByte a v s = s) ∧
    (s.kind a = .io → OnlyAccess s (readByte a s).2 ∧ OnlyAccess s (writeByte a v s))

/-- R62, R61: a word in memory has its high byte at the lower address, and the second address wraps. -/
def Obligations.WordByteOrder : Prop :=
  ∀ (s : State) (a v : Word), s.mem.wf = true → s.kind a = .ram → s.kind (a + 1#16) = .ram →
    Stored [(a, v.extractLsb' 8 8), (a + 1#16, v.extractLsb' 0 8)] s (writeWord a v s) ∧
    readWord a (writeWord a v s) = (v, writeWord a v s)

/-- R5, R6: pushes and pulls. -/
def Obligations.PushAndPull : Prop :=
  ∀ (s : State) (b : Byte) (w : Word),
    push8 b s = { writeByte s.sp b s with sp := s.sp - 1#16 } ∧
    push16 w s = push8 (w.extractLsb' 8 8) (push8 (w.extractLsb' 0 8) s) ∧
    pull8 s = readByte (s.sp + 1#16) { s with sp := s.sp + 1#16 } ∧
    (∀ h t l u, pull8 s = (h, t) → pull8 t = (l, u) → pull16 s = (h ++ l, u))

/-! ## Arithmetic -/

/-- ADDA, ADDB, ADCA, ADCB, ABA (R8, R200, R203 to R206). -/
def Obligations.AdditionResult : Prop :=
  let sum (a m : Byte) (k : Nat) : Byte := a + m + BitVec.ofNat 8 k
  let flags (a m : Byte) (k : Nat) (f : Ccr) : Ccr :=
    { f with
      h := decide (15 < a.toNat % 16 + m.toNat % 16 + k)
      n := decide ((sum a m k).toInt < 0)
      z := decide (sum a m k = 0#8)
      v := decide (a.toInt + m.toInt + k < -128 ∨ 127 < a.toInt + m.toInt + k)
      c := decide (255 < a.toNat + m.toNat + k) }
  (∀ (s : State) (o : Src8),
    let m := (operand8 o s).1
    let t := (operand8 o s).2
    let k := s.ccr.c.toNat
    OnlyReads (reads8 o s) s t ∧
    exec (.adda o) s = .next { t with a := sum s.a m 0, ccr := flags s.a m 0 s.ccr } ∧
    exec (.addb o) s = .next { t with b := sum s.b m 0, ccr := flags s.b m 0 s.ccr } ∧
    exec (.adca o) s = .next { t with a := sum s.a m k, ccr := flags s.a m k s.ccr } ∧
    exec (.adcb o) s = .next { t with b := sum s.b m k, ccr := flags s.b m k s.ccr } ∧
    exec .aba s = .next { s with a := sum s.a s.b 0, ccr := flags s.a s.b 0 s.ccr }) ∧
  (∀ o, encode (.adda o) = encSrc8 o [0x8B#8] [0x9B#8] [0xBB#8] [0xAB#8] [0x18#8, 0xAB#8]) ∧
  (∀ o, encode (.addb o) = encSrc8 o [0xCB#8] [0xDB#8] [0xFB#8] [0xEB#8] [0x18#8, 0xEB#8]) ∧
  (∀ o, encode (.adca o) = encSrc8 o [0x89#8] [0x99#8] [0xB9#8] [0xA9#8] [0x18#8, 0xA9#8]) ∧
  (∀ o, encode (.adcb o) = encSrc8 o [0xC9#8] [0xD9#8] [0xF9#8] [0xE9#8] [0x18#8, 0xE9#8]) ∧
  encode .aba = [0x1B#8]

/-- SUBA, SUBB, SBCA, SBCB, SBA, and CMPA, CMPB, CBA, which write flags only (R9, R209 to R213, R352 to R354). -/
def Obligations.SubtractionResult : Prop :=
  let diff (a m : Byte) (k : Nat) : Byte := a - m - BitVec.ofNat 8 k
  let flags (a m : Byte) (k : Nat) (f : Ccr) : Ccr :=
    { f with
      n := decide ((diff a m k).toInt < 0)
      z := decide (diff a m k = 0#8)
      v := decide (a.toInt - m.toInt - k < -128 ∨ 127 < a.toInt - m.toInt - k)
      c := decide (a.toNat < m.toNat + k) }
  (∀ (s : State) (o : Src8),
    let m := (operand8 o s).1
    let t := (operand8 o s).2
    let k := s.ccr.c.toNat
    OnlyReads (reads8 o s) s t ∧
    exec (.suba o) s = .next { t with a := diff s.a m 0, ccr := flags s.a m 0 s.ccr } ∧
    exec (.subb o) s = .next { t with b := diff s.b m 0, ccr := flags s.b m 0 s.ccr } ∧
    exec (.sbca o) s = .next { t with a := diff s.a m k, ccr := flags s.a m k s.ccr } ∧
    exec (.sbcb o) s = .next { t with b := diff s.b m k, ccr := flags s.b m k s.ccr } ∧
    exec .sba s = .next { s with a := diff s.a s.b 0, ccr := flags s.a s.b 0 s.ccr } ∧
    exec (.cmpa o) s = .next { t with ccr := flags s.a m 0 s.ccr } ∧
    exec (.cmpb o) s = .next { t with ccr := flags s.b m 0 s.ccr } ∧
    exec .cba s = .next { s with ccr := flags s.a s.b 0 s.ccr }) ∧
  (∀ o, encode (.suba o) = encSrc8 o [0x80#8] [0x90#8] [0xB0#8] [0xA0#8] [0x18#8, 0xA0#8]) ∧
  (∀ o, encode (.subb o) = encSrc8 o [0xC0#8] [0xD0#8] [0xF0#8] [0xE0#8] [0x18#8, 0xE0#8]) ∧
  (∀ o, encode (.sbca o) = encSrc8 o [0x82#8] [0x92#8] [0xB2#8] [0xA2#8] [0x18#8, 0xA2#8]) ∧
  (∀ o, encode (.sbcb o) = encSrc8 o [0xC2#8] [0xD2#8] [0xF2#8] [0xE2#8] [0x18#8, 0xE2#8]) ∧
  (∀ o, encode (.cmpa o) = encSrc8 o [0x81#8] [0x91#8] [0xB1#8] [0xA1#8] [0x18#8, 0xA1#8]) ∧
  (∀ o, encode (.cmpb o) = encSrc8 o [0xC1#8] [0xD1#8] [0xF1#8] [0xE1#8] [0x18#8, 0xE1#8]) ∧
  encode .sba = [0x10#8] ∧ encode .cba = [0x11#8]

/-- ADDD, SUBD, and CPD, CPX, CPY, which write flags only (R10, R11, R207, R214, R355 to R357). -/
def Obligations.WordArithmeticResult : Prop :=
  let addFlags (a m : Word) (f : Ccr) : Ccr :=
    { f with
      n := decide ((a + m).toInt < 0)
      z := decide (a + m = 0#16)
      v := decide (a.toInt + m.toInt < -32768 ∨ 32767 < a.toInt + m.toInt)
      c := decide (65535 < a.toNat + m.toNat) }
  let subFlags (a m : Word) (f : Ccr) : Ccr :=
    { f with
      n := decide ((a - m).toInt < 0)
      z := decide (a = m)
      v := decide (a.toInt - m.toInt < -32768 ∨ 32767 < a.toInt - m.toInt)
      c := decide (a.toNat < m.toNat) }
  (∀ (s : State) (o : Src16),
    let m := (operand16 o s).1
    let t := (operand16 o s).2
    OnlyReads (reads16 o s) s t ∧
    exec (.addd o) s = .next ({ t with ccr := addFlags s.d m s.ccr }.setD (s.d + m)) ∧
    exec (.subd o) s = .next ({ t with ccr := subFlags s.d m s.ccr }.setD (s.d - m)) ∧
    exec (.cpd o) s = .next { t with ccr := subFlags s.d m s.ccr } ∧
    exec (.cpx o) s = .next { t with ccr := subFlags s.ix m s.ccr } ∧
    exec (.cpy o) s = .next { t with ccr := subFlags s.iy m s.ccr }) ∧
  (∀ o, encode (.addd o) = encSrc16 o [0xC3#8] [0xD3#8] [0xF3#8] [0xE3#8] [0x18#8, 0xE3#8]) ∧
  (∀ o, encode (.subd o) = encSrc16 o [0x83#8] [0x93#8] [0xB3#8] [0xA3#8] [0x18#8, 0xA3#8]) ∧
  (∀ o, encode (.cpd o) =
    encSrc16 o [0x1A#8, 0x83#8] [0x1A#8, 0x93#8] [0x1A#8, 0xB3#8] [0x1A#8, 0xA3#8] [0xCD#8, 0xA3#8]) ∧
  (∀ o, encode (.cpx o) = encSrc16 o [0x8C#8] [0x9C#8] [0xBC#8] [0xAC#8] [0xCD#8, 0xAC#8]) ∧
  (∀ o, encode (.cpy o) =
    encSrc16 o [0x18#8, 0x8C#8] [0x18#8, 0x9C#8] [0x18#8, 0xBC#8] [0x1A#8, 0xAC#8] [0x18#8, 0xAC#8])

/-- MUL (R215). -/
def Obligations.MultiplyResult : Prop :=
  encode .mul = [0x3D#8] ∧
  ∀ (s : State), ∃ u, exec .mul s = .next u ∧
    u.d.toNat = s.a.toNat * s.b.toNat ∧ u.ccr = { s.ccr with c := u.b.getLsbD 7 } ∧
    u = { s with a := u.a, b := u.b, ccr := u.ccr }

/-- IDIV and FDIV (R216, R217). Where the spec leaves D open, `r` is any word. -/
def Obligations.DivideResult : Prop :=
  encode .idiv = [0x02#8] ∧ encode .fdiv = [0x03#8] ∧
  ∀ (s : State),
    (s.ix = 0#16 → ∃ r : Word, exec .idiv s = .next ({ s with
        ix := 0xFFFF#16, ccr := { s.ccr with z := false, v := false, c := true }, draws := s.draws + 1 }.setD r)) ∧
    (s.ix ≠ 0#16 → ∃ q r : Word, q.toNat = s.d.toNat / s.ix.toNat ∧ r.toNat = s.d.toNat % s.ix.toNat ∧
      exec .idiv s = .next ({ s with
        ix := q, ccr := { s.ccr with z := decide (q = 0#16), v := false, c := false } }.setD r)) ∧
    (s.ix.toNat ≤ s.d.toNat → ∃ r : Word, exec .fdiv s = .next ({ s with
        ix := 0xFFFF#16, ccr := { s.ccr with z := false, v := true, c := decide (s.ix = 0#16) },
        draws := s.draws + 1 }.setD r)) ∧
    (s.d.toNat < s.ix.toNat → ∃ q r : Word, q.toNat = s.d.toNat * 65536 / s.ix.toNat ∧
      r.toNat = s.d.toNat * 65536 % s.ix.toNat ∧
      exec .fdiv s = .next ({ s with
        ix := q, ccr := { s.ccr with z := decide (q = 0#16), v := false, c := false } }.setD r))

/-- DAA (R208). In every state only A, N, Z, V, C and the count of free values change, and N and Z are those of the
new A, whatever it is; after an addition of two packed-BCD numbers, with the carry there was, A and C are the
decimal sum. -/
def Obligations.DecimalAdjustResult : Prop :=
  encode .daa = [0x19#8] ∧
  (∀ (s : State), ∃ (r : Byte) (v c : Bool), exec .daa s = .next { s with
    a := r, ccr := { s.ccr with n := decide (r.toInt < 0), z := decide (r = 0#8), v := v, c := c },
    draws := s.draws + 2 }) ∧
  (∀ (s : State) (p q : Nat), p < 100 → q < 100 → s.a = packedDecimal p →
    let total := p + q + s.ccr.c.toNat
    ∃ t u, exec (.adca (.imm (packedDecimal q))) s = .next t ∧ exec .daa t = .next u ∧
      u.a = packedDecimal (total % 100) ∧ u.ccr.c = decide (99 < total))

/-! ## Shifts, logic, increments -/

/-- ASL, ASLA, ASLB, ASLD and their second names LSL, LSLA, LSLB, LSLD (R13, R230 to R233, R237 to R240). -/
def Obligations.ShiftLeftResult : Prop :=
  let r (m : Byte) : Byte := BitVec.ofNat 8 (2 * m.toNat)
  let flags (m : Byte) (f : Ccr) : Ccr :=
    { f with n := (r m).getLsbD 7, z := decide (r m = 0#8), v := (r m).getLsbD 7 != m.getLsbD 7, c := m.getLsbD 7 }
  let rD (d : Word) : Word := BitVec.ofNat 16 (2 * d.toNat)
  let flagsD (d : Word) (f : Ccr) : Ccr :=
    { f with n := (rD d).getLsbD 15, z := decide (rD d = 0#16), v := (rD d).getLsbD 15 != d.getLsbD 15,
             c := d.getLsbD 15 }
  (∀ (s : State) (o : RmwAddr), s.mem.wf = true →
    let m := (readByte (ea (rmwAddr o) s) s).1
    ReadsThenWrites (.asl o) (rmwAddr o) (r m) (flags m s.ccr) s ∧
    ReadsThenWrites (.lsl o) (rmwAddr o) (r m) (flags m s.ccr) s) ∧
  (∀ (s : State),
    exec .asla s = .next { s with a := r s.a, ccr := flags s.a s.ccr } ∧
    exec .lsla s = .next { s with a := r s.a, ccr := flags s.a s.ccr } ∧
    exec .aslb s = .next { s with b := r s.b, ccr := flags s.b s.ccr } ∧
    exec .lslb s = .next { s with b := r s.b, ccr := flags s.b s.ccr } ∧
    exec .asld s = .next ({ s with ccr := flagsD s.d s.ccr }.setD (rD s.d)) ∧
    exec .lsld s = .next ({ s with ccr := flagsD s.d s.ccr }.setD (rD s.d))) ∧
  (∀ o, encode (.asl o) = encRmw o [0x78#8] [0x68#8] [0x18#8, 0x68#8]) ∧
  (∀ o, encode (.lsl o) = encRmw o [0x78#8] [0x68#8] [0x18#8, 0x68#8]) ∧
  encode .asla = [0x48#8] ∧ encode .lsla = [0x48#8] ∧ encode .aslb = [0x58#8] ∧ encode .lslb = [0x58#8] ∧
  encode .asld = [0x05#8] ∧ encode .lsld = [0x05#8]

/-- ASR, ASRA, ASRB, LSR, LSRA, LSRB, LSRD: halving, rounding down, of the signed and of the unsigned number
(R13, R234 to R236, R241 to R244). -/
def Obligations.ShiftRightResult : Prop :=
  let asr (m : Byte) : Byte := BitVec.ofInt 8 (m.toInt / 2)
  let lsr (m : Byte) : Byte := BitVec.ofNat 8 (m.toNat / 2)
  let lsrD (d : Word) : Word := BitVec.ofNat 16 (d.toNat / 2)
  let flags (r m : Byte) (f : Ccr) : Ccr :=
    { f with n := r.getLsbD 7, z := decide (r = 0#8), v := r.getLsbD 7 != m.getLsbD 0, c := m.getLsbD 0 }
  (∀ (s : State) (o : RmwAddr), s.mem.wf = true →
    let m := (readByte (ea (rmwAddr o) s) s).1
    ReadsThenWrites (.asr o) (rmwAddr o) (asr m) (flags (asr m) m s.ccr) s ∧
    ReadsThenWrites (.lsr o) (rmwAddr o) (lsr m) (flags (lsr m) m s.ccr) s) ∧
  (∀ (s : State),
    exec .asra s = .next { s with a := asr s.a, ccr := flags (asr s.a) s.a s.ccr } ∧
    exec .asrb s = .next { s with b := asr s.b, ccr := flags (asr s.b) s.b s.ccr } ∧
    exec .lsra s = .next { s with a := lsr s.a, ccr := flags (lsr s.a) s.a s.ccr } ∧
    exec .lsrb s = .next { s with b := lsr s.b, ccr := flags (lsr s.b) s.b s.ccr } ∧
    exec .lsrd s = .next ({ s with ccr := { s.ccr with
      n := false, z := decide (lsrD s.d = 0#16), v := s.b.getLsbD 0, c := s.b.getLsbD 0 } }.setD (lsrD s.d))) ∧
  (∀ o, encode (.asr o) = encRmw o [0x77#8] [0x67#8] [0x18#8, 0x67#8]) ∧
  (∀ o, encode (.lsr o) = encRmw o [0x74#8] [0x64#8] [0x18#8, 0x64#8]) ∧
  encode .asra = [0x47#8] ∧ encode .asrb = [0x57#8] ∧ encode .lsra = [0x44#8] ∧ encode .lsrb = [0x54#8] ∧
  encode .lsrd = [0x04#8]

/-- ROL, ROLA, ROLB, ROR, RORA, RORB: the nine-bit rotation through C (R13, R245 to R250). -/
def Obligations.RotateResult : Prop :=
  let rol (m : Byte) (c : Bool) : Byte := BitVec.ofNat 8 (2 * m.toNat + c.toNat)
  let ror (m : Byte) (c : Bool) : Byte := BitVec.ofNat 8 (m.toNat / 2 + 128 * c.toNat)
  let flags (r : Byte) (out : Bool) (f : Ccr) : Ccr :=
    { f with n := r.getLsbD 7, z := decide (r = 0#8), v := r.getLsbD 7 != out, c := out }
  (∀ (s : State) (o : RmwAddr), s.mem.wf = true →
    let m := (readByte (ea (rmwAddr o) s) s).1
    let c := s.ccr.c
    ReadsThenWrites (.rol o) (rmwAddr o) (rol m c) (flags (rol m c) (m.getLsbD 7) s.ccr) s ∧
    ReadsThenWrites (.ror o) (rmwAddr o) (ror m c) (flags (ror m c) (m.getLsbD 0) s.ccr) s) ∧
  (∀ (s : State),
    let c := s.ccr.c
    exec .rola s = .next { s with a := rol s.a c, ccr := flags (rol s.a c) (s.a.getLsbD 7) s.ccr } ∧
    exec .rolb s = .next { s with b := rol s.b c, ccr := flags (rol s.b c) (s.b.getLsbD 7) s.ccr } ∧
    exec .rora s = .next { s with a := ror s.a c, ccr := flags (ror s.a c) (s.a.getLsbD 0) s.ccr } ∧
    exec .rorb s = .next { s with b := ror s.b c, ccr := flags (ror s.b c) (s.b.getLsbD 0) s.ccr }) ∧
  (∀ o, encode (.rol o) = encRmw o [0x79#8] [0x69#8] [0x18#8, 0x69#8]) ∧
  (∀ o, encode (.ror o) = encRmw o [0x76#8] [0x66#8] [0x18#8, 0x66#8]) ∧
  encode .rola = [0x49#8] ∧ encode .rolb = [0x59#8] ∧ encode .rora = [0x46#8] ∧ encode .rorb = [0x56#8]

/-- ANDA, ANDB, EORA, EORB, ORAA, ORAB, and BITA, BITB, which write flags only (R12, R260 to R265, R350, R351). -/
def Obligations.LogicResult : Prop :=
  let flags (r : Byte) (f : Ccr) : Ccr := { f with n := r.getLsbD 7, z := decide (r.toNat = 0), v := false }
  (∀ (s : State) (o : Src8),
    let m := (operand8 o s).1
    let t := (operand8 o s).2
    OnlyReads (reads8 o s) s t ∧
    exec (.anda o) s = .next { t with a := s.a &&& m, ccr := flags (s.a &&& m) s.ccr } ∧
    exec (.andb o) s = .next { t with b := s.b &&& m, ccr := flags (s.b &&& m) s.ccr } ∧
    exec (.eora o) s = .next { t with a := s.a ^^^ m, ccr := flags (s.a ^^^ m) s.ccr } ∧
    exec (.eorb o) s = .next { t with b := s.b ^^^ m, ccr := flags (s.b ^^^ m) s.ccr } ∧
    exec (.oraa o) s = .next { t with a := s.a ||| m, ccr := flags (s.a ||| m) s.ccr } ∧
    exec (.orab o) s = .next { t with b := s.b ||| m, ccr := flags (s.b ||| m) s.ccr } ∧
    exec (.bita o) s = .next { t with ccr := flags (s.a &&& m) s.ccr } ∧
    exec (.bitb o) s = .next { t with ccr := flags (s.b &&& m) s.ccr }) ∧
  (∀ o, encode (.anda o) = encSrc8 o [0x84#8] [0x94#8] [0xB4#8] [0xA4#8] [0x18#8, 0xA4#8]) ∧
  (∀ o, encode (.andb o) = encSrc8 o [0xC4#8] [0xD4#8] [0xF4#8] [0xE4#8] [0x18#8, 0xE4#8]) ∧
  (∀ o, encode (.eora o) = encSrc8 o [0x88#8] [0x98#8] [0xB8#8] [0xA8#8] [0x18#8, 0xA8#8]) ∧
  (∀ o, encode (.eorb o) = encSrc8 o [0xC8#8] [0xD8#8] [0xF8#8] [0xE8#8] [0x18#8, 0xE8#8]) ∧
  (∀ o, encode (.oraa o) = encSrc8 o [0x8A#8] [0x9A#8] [0xBA#8] [0xAA#8] [0x18#8, 0xAA#8]) ∧
  (∀ o, encode (.orab o) = encSrc8 o [0xCA#8] [0xDA#8] [0xFA#8] [0xEA#8] [0x18#8, 0xEA#8]) ∧
  (∀ o, encode (.bita o) = encSrc8 o [0x85#8] [0x95#8] [0xB5#8] [0xA5#8] [0x18#8, 0xA5#8]) ∧
  (∀ o, encode (.bitb o) = encSrc8 o [0xC5#8] [0xD5#8] [0xF5#8] [0xE5#8] [0x18#8, 0xE5#8])

/-- COM, COMA, COMB, NEG, NEGA, NEGB (R266 to R271). -/
def Obligations.ComplementResult : Prop :=
  let comFlags (m : Byte) (f : Ccr) : Ccr :=
    { f with n := !m.getLsbD 7, z := decide (m = 0xFF#8), v := false, c := true }
  let negFlags (m : Byte) (f : Ccr) : Ccr :=
    { f with n := (-m).getLsbD 7, z := decide (m = 0#8), v := decide (m = 0x80#8), c := decide (m ≠ 0#8) }
  (∀ (s : State) (o : RmwAddr), s.mem.wf = true →
    let m := (readByte (ea (rmwAddr o) s) s).1
    ReadsThenWrites (.com o) (rmwAddr o) (~~~m) (comFlags m s.ccr) s ∧
    ReadsThenWrites (.neg o) (rmwAddr o) (-m) (negFlags m s.ccr) s) ∧
  (∀ (s : State),
    exec .coma s = .next { s with a := ~~~s.a, ccr := comFlags s.a s.ccr } ∧
    exec .comb s = .next { s with b := ~~~s.b, ccr := comFlags s.b s.ccr } ∧
    exec .nega s = .next { s with a := -s.a, ccr := negFlags s.a s.ccr } ∧
    exec .negb s = .next { s with b := -s.b, ccr := negFlags s.b s.ccr }) ∧
  (∀ o, encode (.com o) = encRmw o [0x73#8] [0x63#8] [0x18#8, 0x63#8]) ∧
  (∀ o, encode (.neg o) = encRmw o [0x70#8] [0x60#8] [0x18#8, 0x60#8]) ∧
  encode .coma = [0x43#8] ∧ encode .comb = [0x53#8] ∧ encode .nega = [0x40#8] ∧ encode .negb = [0x50#8]

/-- INC, INCA, INCB, DEC, DECA, DECB: C is left alone (R280 to R282, R286 to R288). -/
def Obligations.IncrementDecrementResult : Prop :=
  let incFlags (m : Byte) (f : Ccr) : Ccr :=
    { f with n := decide ((m + 1#8).toInt < 0), z := decide (m = 0xFF#8), v := decide (127 < m.toInt + 1) }
  let decFlags (m : Byte) (f : Ccr) : Ccr :=
    { f with n := decide ((m - 1#8).toInt < 0), z := decide (m = 0x01#8), v := decide (m.toInt - 1 < -128) }
  (∀ (s : State) (o : RmwAddr), s.mem.wf = true →
    let m := (readByte (ea (rmwAddr o) s) s).1
    ReadsThenWrites (.inc o) (rmwAddr o) (m + 1#8) (incFlags m s.ccr) s ∧
    ReadsThenWrites (.dec o) (rmwAddr o) (m - 1#8) (decFlags m s.ccr) s) ∧
  (∀ (s : State),
    exec .inca s = .next { s with a := s.a + 1#8, ccr := incFlags s.a s.ccr } ∧
    exec .incb s = .next { s with b := s.b + 1#8, ccr := incFlags s.b s.ccr } ∧
    exec .deca s = .next { s with a := s.a - 1#8, ccr := decFlags s.a s.ccr } ∧
    exec .decb s = .next { s with b := s.b - 1#8, ccr := decFlags s.b s.ccr }) ∧
  (∀ o, encode (.inc o) = encRmw o [0x7C#8] [0x6C#8] [0x18#8, 0x6C#8]) ∧
  (∀ o, encode (.dec o) = encRmw o [0x7A#8] [0x6A#8] [0x18#8, 0x6A#8]) ∧
  encode .inca = [0x4C#8] ∧ encode .incb = [0x5C#8] ∧ encode .deca = [0x4A#8] ∧ encode .decb = [0x5A#8]

/-- CLR, CLRA, CLRB, and TST, TSTA, TSTB, which write flags only (R293 to R295, R358 to R360). -/
def Obligations.ClearAndTestResult : Prop :=
  let clrFlags (f : Ccr) : Ccr := { f with n := false, z := true, v := false, c := false }
  let tstFlags (m : Byte) (f : Ccr) : Ccr :=
    { f with n := decide (m.toInt < 0), z := decide (m = 0#8), v := false, c := false }
  (∀ (s : State) (o : RmwAddr), s.mem.wf = true →
    ReadsThenWrites (.clr o) (rmwAddr o) 0#8 (clrFlags s.ccr) s) ∧
  (∀ (s : State) (o : RmwAddr),
    let m := (readByte (ea (rmwAddr o) s) s).1
    let t := (readByte (ea (rmwAddr o) s) s).2
    OnlyReads [ea (rmwAddr o) s] s t ∧ exec (.tst o) s = .next { t with ccr := tstFlags m s.ccr }) ∧
  (∀ (s : State),
    exec .clra s = .next { s with a := 0#8, ccr := clrFlags s.ccr } ∧
    exec .clrb s = .next { s with b := 0#8, ccr := clrFlags s.ccr } ∧
    exec .tsta s = .next { s with ccr := tstFlags s.a s.ccr } ∧
    exec .tstb s = .next { s with ccr := tstFlags s.b s.ccr }) ∧
  (∀ o, encode (.clr o) = encRmw o [0x7F#8] [0x6F#8] [0x18#8, 0x6F#8]) ∧
  (∀ o, encode (.tst o) = encRmw o [0x7D#8] [0x6D#8] [0x18#8, 0x6D#8]) ∧
  encode .clra = [0x4F#8] ∧ encode .clrb = [0x5F#8] ∧ encode .tsta = [0x4D#8] ∧ encode .tstb = [0x5D#8]

/-- BCLR and BSET: bit by bit, the mask's bits become 0 or 1 and the others keep their value (R296, R297). -/
def Obligations.BitClearAndSetResult : Prop :=
  (∀ (s : State) (o : BitAddr) (mm : Byte), s.mem.wf = true →
    let m := (readByte (ea (bitAddr o) s) s).1
    ∃ rc rs : Byte,
      (∀ k : Fin 8, rc.getLsbD k = (m.getLsbD k && !mm.getLsbD k)) ∧
      (∀ k : Fin 8, rs.getLsbD k = (m.getLsbD k || mm.getLsbD k)) ∧
      ReadsThenWrites (.bclr o mm) (bitAddr o) rc
        { s.ccr with n := rc.getLsbD 7, z := decide (rc = 0#8), v := false } s ∧
      ReadsThenWrites (.bset o mm) (bitAddr o) rs
        { s.ccr with n := rs.getLsbD 7, z := decide (rs = 0#8), v := false } s) ∧
  (∀ o mm, encode (.bclr o mm) = encBit o [0x15#8] [0x1D#8] [0x18#8, 0x1D#8] ++ [mm]) ∧
  (∀ o mm, encode (.bset o mm) = encBit o [0x14#8] [0x1C#8] [0x18#8, 0x1C#8] ++ [mm])

/-- The 16-bit counting and adjusting instructions: INX, INY, DEX, DEY write Z only; INS, DES, ABX, ABY, TSX, TSY,
TXS, TYS write no flag (R201, R202, R283 to R285, R289 to R291, R334 to R337). -/
def Obligations.PointerArithmeticResult : Prop :=
  (∀ (s : State),
    exec .inx s = .next { s with ix := s.ix + 1#16, ccr := { s.ccr with z := decide (s.ix = 0xFFFF#16) } } ∧
    exec .iny s = .next { s with iy := s.iy + 1#16, ccr := { s.ccr with z := decide (s.iy = 0xFFFF#16) } } ∧
    exec .dex s = .next { s with ix := s.ix - 1#16, ccr := { s.ccr with z := decide (s.ix = 1#16) } } ∧
    exec .dey s = .next { s with iy := s.iy - 1#16, ccr := { s.ccr with z := decide (s.iy = 1#16) } } ∧
    exec .ins s = .next { s with sp := s.sp + 1#16 } ∧
    exec .des s = .next { s with sp := s.sp - 1#16 } ∧
    exec .abx s = .next { s with ix := BitVec.ofNat 16 (s.ix.toNat + s.b.toNat) } ∧
    exec .aby s = .next { s with iy := BitVec.ofNat 16 (s.iy.toNat + s.b.toNat) } ∧
    exec .tsx s = .next { s with ix := s.sp + 1#16 } ∧
    exec .tsy s = .next { s with iy := s.sp + 1#16 } ∧
    exec .txs s = .next { s with sp := s.ix - 1#16 } ∧
    exec .tys s = .next { s with sp := s.iy - 1#16 }) ∧
  encode .inx = [0x08#8] ∧ encode .iny = [0x18#8, 0x08#8] ∧ encode .dex = [0x09#8] ∧
  encode .dey = [0x18#8, 0x09#8] ∧ encode .ins = [0x31#8] ∧ encode .des = [0x34#8] ∧ encode .abx = [0x3A#8] ∧
  encode .aby = [0x18#8, 0x3A#8] ∧ encode .tsx = [0x30#8] ∧ encode .tsy = [0x18#8, 0x30#8] ∧
  encode .txs = [0x35#8] ∧ encode .tys = [0x18#8, 0x35#8]

/-- CLC, CLV, SEC, SEV, SEI, CLI: each writes its one flag; CLI sets the inhibit when it changes I from 1 to 0
(R298 to R303). -/
def Obligations.FlagInstructions : Prop :=
  (∀ (s : State),
    exec .clc s = .next { s with ccr := { s.ccr with c := false } } ∧
    exec .clv s = .next { s with ccr := { s.ccr with v := false } } ∧
    exec .sec s = .next { s with ccr := { s.ccr with c := true } } ∧
    exec .sev s = .next { s with ccr := { s.ccr with v := true } } ∧
    exec .sei s = .next { s with ccr := { s.ccr with i := true } } ∧
    (s.ccr.i = true →
      exec .cli s = .next { s with ccr := { s.ccr with i := false }, irqInhibit := true }) ∧
    (s.ccr.i = false → exec .cli s = .next s)) ∧
  encode .clc = [0x0C#8] ∧ encode .clv = [0x0A#8] ∧ encode .sec = [0x0D#8] ∧ encode .sev = [0x0B#8] ∧
  encode .sei = [0x0F#8] ∧ encode .cli = [0x0E#8]

/-! ## Transfers and stack -/

/-- LDAA, LDAB, LDD, LDS, LDX, LDY (R12, R310 to R315). -/
def Obligations.LoadResult : Prop :=
  let flags8 (m : Byte) (f : Ccr) : Ccr := { f with n := decide (m.toInt < 0), z := decide (m = 0#8), v := false }
  let flags16 (m : Word) (f : Ccr) : Ccr :=
    { f with n := decide (m.toInt < 0), z := decide (m = 0#16), v := false }
  (∀ (s : State) (o : Src8),
    let m := (operand8 o s).1
    let t := (operand8 o s).2
    OnlyReads (reads8 o s) s t ∧
    exec (.ldaa o) s = .next { t with a := m, ccr := flags8 m s.ccr } ∧
    exec (.ldab o) s = .next { t with b := m, ccr := flags8 m s.ccr }) ∧
  (∀ (s : State) (o : Src16),
    let m := (operand16 o s).1
    let t := (operand16 o s).2
    OnlyReads (reads16 o s) s t ∧
    exec (.ldd o) s = .next
      { t with a := m.extractLsb' 8 8, b := m.extractLsb' 0 8, ccr := flags16 m s.ccr } ∧
    exec (.lds o) s = .next { t with sp := m, ccr := flags16 m s.ccr } ∧
    exec (.ldx o) s = .next { t with ix := m, ccr := flags16 m s.ccr } ∧
    exec (.ldy o) s = .next { t with iy := m, ccr := flags16 m s.ccr }) ∧
  (∀ o, encode (.ldaa o) = encSrc8 o [0x86#8] [0x96#8] [0xB6#8] [0xA6#8] [0x18#8, 0xA6#8]) ∧
  (∀ o, encode (.ldab o) = encSrc8 o [0xC6#8] [0xD6#8] [0xF6#8] [0xE6#8] [0x18#8, 0xE6#8]) ∧
  (∀ o, encode (.ldd o) = encSrc16 o [0xCC#8] [0xDC#8] [0xFC#8] [0xEC#8] [0x18#8, 0xEC#8]) ∧
  (∀ o, encode (.lds o) = encSrc16 o [0x8E#8] [0x9E#8] [0xBE#8] [0xAE#8] [0x18#8, 0xAE#8]) ∧
  (∀ o, encode (.ldx o) = encSrc16 o [0xCE#8] [0xDE#8] [0xFE#8] [0xEE#8] [0xCD#8, 0xEE#8]) ∧
  (∀ o, encode (.ldy o) =
    encSrc16 o [0x18#8, 0xCE#8] [0x18#8, 0xDE#8] [0x18#8, 0xFE#8] [0x1A#8, 0xEE#8] [0x18#8, 0xEE#8])

/-- STAA, STAB, STD, STS, STX, STY: the bytes stored, at the effective address, and the flags of the value
(R12, R316 to R321). -/
def Obligations.StoreResult : Prop :=
  let flags8 (m : Byte) (f : Ccr) : Ccr := { f with n := decide (m.toInt < 0), z := decide (m = 0#8), v := false }
  let flags16 (m : Word) (f : Ccr) : Ccr :=
    { f with n := decide (m.toInt < 0), z := decide (m = 0#16), v := false }
  (∀ (s : State) (o : Addr), s.mem.wf = true →
    let a := ea o s
    let bytes (w : Word) : List (Word × Byte) := [(a, w.extractLsb' 8 8), (a + 1#16, w.extractLsb' 0 8)]
    StoresAs (.staa o) [(a, s.a)] s { s with ccr := flags8 s.a s.ccr } ∧
    StoresAs (.stab o) [(a, s.b)] s { s with ccr := flags8 s.b s.ccr } ∧
    StoresAs (.std o) [(a, s.a), (a + 1#16, s.b)] s { s with ccr := flags16 s.d s.ccr } ∧
    StoresAs (.sts o) (bytes s.sp) s { s with ccr := flags16 s.sp s.ccr } ∧
    StoresAs (.stx o) (bytes s.ix) s { s with ccr := flags16 s.ix s.ccr } ∧
    StoresAs (.sty o) (bytes s.iy) s { s with ccr := flags16 s.iy s.ccr }) ∧
  (∀ o, encode (.staa o) = encAddr o [0x97#8] [0xB7#8] [0xA7#8] [0x18#8, 0xA7#8]) ∧
  (∀ o, encode (.stab o) = encAddr o [0xD7#8] [0xF7#8] [0xE7#8] [0x18#8, 0xE7#8]) ∧
  (∀ o, encode (.std o) = encAddr o [0xDD#8] [0xFD#8] [0xED#8] [0x18#8, 0xED#8]) ∧
  (∀ o, encode (.sts o) = encAddr o [0x9F#8] [0xBF#8] [0xAF#8] [0x18#8, 0xAF#8]) ∧
  (∀ o, encode (.stx o) = encAddr o [0xDF#8] [0xFF#8] [0xEF#8] [0xCD#8, 0xEF#8]) ∧
  (∀ o, encode (.sty o) = encAddr o [0x18#8, 0xDF#8] [0x18#8, 0xFF#8] [0x1A#8, 0xEF#8] [0x18#8, 0xEF#8])

/-- PSHA, PSHB, PSHX, PSHY: the low byte of a word at the old SP, its high byte one below. PULA, PULB, PULX, PULY:
the bytes above SP, high byte first. No flag changes (R322 to R329). -/
def Obligations.PushPullResult : Prop :=
  (∀ (s : State), s.mem.wf = true →
    let bytes (w : Word) : List (Word × Byte) := [(s.sp, w.extractLsb' 0 8), (s.sp - 1#16, w.extractLsb' 8 8)]
    StoresAs .psha [(s.sp, s.a)] s { s with sp := s.sp - 1#16 } ∧
    StoresAs .pshb [(s.sp, s.b)] s { s with sp := s.sp - 1#16 } ∧
    StoresAs .pshx (bytes s.ix) s { s with sp := s.sp - 2#16 } ∧
    StoresAs .pshy (bytes s.iy) s { s with sp := s.sp - 2#16 }) ∧
  (∀ (s : State),
    let m := readByte (s.sp + 1#16) s
    let w := readWord (s.sp + 1#16) s
    OnlyReads [s.sp + 1#16] s m.2 ∧ OnlyReads [s.sp + 1#16, s.sp + 2#16] s w.2 ∧
    exec .pula s = .next { m.2 with a := m.1, sp := s.sp + 1#16 } ∧
    exec .pulb s = .next { m.2 with b := m.1, sp := s.sp + 1#16 } ∧
    exec .pulx s = .next { w.2 with ix := w.1, sp := s.sp + 2#16 } ∧
    exec .puly s = .next { w.2 with iy := w.1, sp := s.sp + 2#16 }) ∧
  encode .psha = [0x36#8] ∧ encode .pshb = [0x37#8] ∧ encode .pshx = [0x3C#8] ∧ encode .pshy = [0x18#8, 0x3C#8] ∧
  encode .pula = [0x32#8] ∧ encode .pulb = [0x33#8] ∧ encode .pulx = [0x38#8] ∧ encode .puly = [0x18#8, 0x38#8]

/-- TAB, TBA, XGDX, XGDY (R330, R331, R338, R339). -/
def Obligations.RegisterTransferResult : Prop :=
  let flags (m : Byte) (f : Ccr) : Ccr := { f with n := decide (m.toInt < 0), z := decide (m = 0#8), v := false }
  (∀ (s : State),
    exec .tab s = .next { s with b := s.a, ccr := flags s.a s.ccr } ∧
    exec .tba s = .next { s with a := s.b, ccr := flags s.b s.ccr } ∧
    exec .xgdx s = .next { s with a := s.ix.extractLsb' 8 8, b := s.ix.extractLsb' 0 8, ix := s.a ++ s.b } ∧
    exec .xgdy s = .next { s with a := s.iy.extractLsb' 8 8, b := s.iy.extractLsb' 0 8, iy := s.a ++ s.b }) ∧
  encode .tab = [0x16#8] ∧ encode .tba = [0x17#8] ∧ encode .xgdx = [0x8F#8] ∧ encode .xgdy = [0x18#8, 0x8F#8]

/-- TPA and TAP: the bit places, X cleared only, and the inhibit when I goes from 1 to 0 (R332, R333). -/
def Obligations.CcrTransferResult : Prop :=
  (∀ (s : State),
    (∃ r : Byte, exec .tpa s = .next { s with a := r } ∧
      r.getLsbD 7 = s.ccr.s ∧ r.getLsbD 6 = s.ccr.x ∧ r.getLsbD 5 = s.ccr.h ∧ r.getLsbD 4 = s.ccr.i ∧
      r.getLsbD 3 = s.ccr.n ∧ r.getLsbD 2 = s.ccr.z ∧ r.getLsbD 1 = s.ccr.v ∧ r.getLsbD 0 = s.ccr.c) ∧
    exec .tap s = .next { s with
      irqInhibit := (s.ccr.i && !s.a.getLsbD 4) || s.irqInhibit
      ccr := { s := s.a.getLsbD 7, x := s.ccr.x && s.a.getLsbD 6, h := s.a.getLsbD 5, i := s.a.getLsbD 4,
               n := s.a.getLsbD 3, z := s.a.getLsbD 2, v := s.a.getLsbD 1, c := s.a.getLsbD 0 } }) ∧
  encode .tpa = [0x07#8] ∧ encode .tap = [0x06#8]

/-! ## Branches, jumps, subroutines -/

/-- The branches on one flag, BRA, BRN and NOP: taken, PC becomes PC + offset modulo 2^16, the offset a two's
complement byte; not taken, nothing changes (R108, R292, R370 to R377, R388, R389). -/
def Obligations.SimpleBranchResult : Prop :=
  (∀ (s : State) (rr : Byte),
    let taken : State := { s with pc := BitVec.ofInt 16 (s.pc.toNat + rr.toInt) }
    exec (.bcc rr) s = .next (if s.ccr.c = false then taken else s) ∧
    exec (.bcs rr) s = .next (if s.ccr.c = true then taken else s) ∧
    exec (.bne rr) s = .next (if s.ccr.z = false then taken else s) ∧
    exec (.beq rr) s = .next (if s.ccr.z = true then taken else s) ∧
    exec (.bpl rr) s = .next (if s.ccr.n = false then taken else s) ∧
    exec (.bmi rr) s = .next (if s.ccr.n = true then taken else s) ∧
    exec (.bvc rr) s = .next (if s.ccr.v = false then taken else s) ∧
    exec (.bvs rr) s = .next (if s.ccr.v = true then taken else s) ∧
    exec (.bra rr) s = .next taken ∧ exec (.brn rr) s = .next s ∧ exec .nop s = .next s) ∧
  (∀ rr, encode (.bcc rr) = [0x24#8, rr] ∧ encode (.bcs rr) = [0x25#8, rr] ∧ encode (.bne rr) = [0x26#8, rr] ∧
    encode (.beq rr) = [0x27#8, rr] ∧ encode (.bpl rr) = [0x2A#8, rr] ∧ encode (.bmi rr) = [0x2B#8, rr] ∧
    encode (.bvc rr) = [0x28#8, rr] ∧ encode (.bvs rr) = [0x29#8, rr] ∧ encode (.bra rr) = [0x20#8, rr] ∧
    encode (.brn rr) = [0x21#8, rr]) ∧
  encode .nop = [0x01#8]

/-- The unsigned and signed branches, with BHS and BLO (R378 to R385). -/
def Obligations.CompoundBranchResult : Prop :=
  (∀ (s : State) (rr : Byte),
    let taken : State := { s with pc := BitVec.ofInt 16 (s.pc.toNat + rr.toInt) }
    exec (.bhi rr) s = .next (if s.ccr.c = false ∧ s.ccr.z = false then taken else s) ∧
    exec (.bls rr) s = .next (if s.ccr.c = true ∨ s.ccr.z = true then taken else s) ∧
    exec (.bhs rr) s = .next (if s.ccr.c = false then taken else s) ∧
    exec (.blo rr) s = .next (if s.ccr.c = true then taken else s) ∧
    exec (.bge rr) s = .next (if s.ccr.n = s.ccr.v then taken else s) ∧
    exec (.blt rr) s = .next (if s.ccr.n ≠ s.ccr.v then taken else s) ∧
    exec (.bgt rr) s = .next (if s.ccr.z = false ∧ s.ccr.n = s.ccr.v then taken else s) ∧
    exec (.ble rr) s = .next (if s.ccr.z = true ∨ s.ccr.n ≠ s.ccr.v then taken else s)) ∧
  (∀ rr, encode (.bhi rr) = [0x22#8, rr] ∧ encode (.bls rr) = [0x23#8, rr] ∧ encode (.bhs rr) = [0x24#8, rr] ∧
    encode (.blo rr) = [0x25#8, rr] ∧ encode (.bge rr) = [0x2C#8, rr] ∧ encode (.blt rr) = [0x2D#8, rr] ∧
    encode (.bgt rr) = [0x2E#8, rr] ∧ encode (.ble rr) = [0x2F#8, rr])

/-- After a compare of A with an operand, each branch is taken exactly when the order its name says holds between
them, as unsigned or as signed numbers (46_branch_jump.md, the summary table). -/
def Obligations.BranchAfterCompare : Prop :=
  ∀ (s : State) (m rr : Byte), ∃ t, exec (.cmpa (.imm m)) s = .next t ∧
    let taken : State := { t with pc := BitVec.ofInt 16 (s.pc.toNat + rr.toInt) }
    exec (.beq rr) t = .next (if s.a = m then taken else t) ∧
    exec (.bne rr) t = .next (if s.a ≠ m then taken else t) ∧
    exec (.bhi rr) t = .next (if s.a.toNat > m.toNat then taken else t) ∧
    exec (.bhs rr) t = .next (if s.a.toNat ≥ m.toNat then taken else t) ∧
    exec (.blo rr) t = .next (if s.a.toNat < m.toNat then taken else t) ∧
    exec (.bls rr) t = .next (if s.a.toNat ≤ m.toNat then taken else t) ∧
    exec (.bgt rr) t = .next (if s.a.toInt > m.toInt then taken else t) ∧
    exec (.bge rr) t = .next (if s.a.toInt ≥ m.toInt then taken else t) ∧
    exec (.blt rr) t = .next (if s.a.toInt < m.toInt then taken else t) ∧
    exec (.ble rr) t = .next (if s.a.toInt ≤ m.toInt then taken else t)

/-- BRCLR and BRSET: taken when every bit the mask selects is 0, or is 1, in the memory byte, which is only read
(R386, R387). -/
def Obligations.BitBranchResult : Prop :=
  (∀ (s : State) (o : BitAddr) (mm rr : Byte),
    let m := (readByte (ea (bitAddr o) s) s).1
    let t := (readByte (ea (bitAddr o) s) s).2
    let taken : State := { t with pc := BitVec.ofInt 16 (s.pc.toNat + rr.toInt) }
    OnlyReads [ea (bitAddr o) s] s t ∧
    exec (.brclr o mm rr) s =
      .next (if ∀ k : Fin 8, mm.getLsbD k = true → m.getLsbD k = false then taken else t) ∧
    exec (.brset o mm rr) s =
      .next (if ∀ k : Fin 8, mm.getLsbD k = true → m.getLsbD k = true then taken else t)) ∧
  (∀ o mm rr, encode (.brclr o mm rr) = encBit o [0x13#8] [0x1F#8] [0x18#8, 0x1F#8] ++ [mm, rr]) ∧
  (∀ o mm rr, encode (.brset o mm rr) = encBit o [0x12#8] [0x1E#8] [0x18#8, 0x1E#8] ++ [mm, rr])

/-- BSR, JSR, JMP, RTS: the return address on the stack, low byte at the old SP; no flag changes
(R390 to R393). -/
def Obligations.JumpAndSubroutineResult : Prop :=
  (∀ (s : State) (rr : Byte) (o : Addr), s.mem.wf = true →
    let ret : List (Word × Byte) := [(s.sp, s.pc.extractLsb' 0 8), (s.sp - 1#16, s.pc.extractLsb' 8 8)]
    StoresAs (.bsr rr) ret s
      { s with sp := s.sp - 2#16, pc := BitVec.ofInt 16 (s.pc.toNat + rr.toInt) } ∧
    StoresAs (.jsr o) ret s { s with sp := s.sp - 2#16, pc := ea o s }) ∧
  (∀ (s : State) (o : RmwAddr), exec (.jmp o) s = .next { s with pc := ea (rmwAddr o) s }) ∧
  (∀ (s : State),
    let w := readWord (s.sp + 1#16) s
    OnlyReads [s.sp + 1#16, s.sp + 2#16] s w.2 ∧
      exec .rts s = .next { w.2 with pc := w.1, sp := s.sp + 2#16 }) ∧
  (∀ rr, encode (.bsr rr) = [0x8D#8, rr]) ∧
  (∀ o, encode (.jsr o) = encAddr o [0x9D#8] [0xBD#8] [0xAD#8] [0x18#8, 0xAD#8]) ∧
  (∀ o, encode (.jmp o) = encRmw o [0x7E#8] [0x6E#8] [0x18#8, 0x6E#8]) ∧
  encode .rts = [0x39#8]

/-- A subroutine that leaves SP where it found it returns to the instruction after the call, with every register
and flag but PC as the subroutine left them. -/
def Obligations.ReturnAfterCall : Prop :=
  ∀ (s : State) (o : Addr), s.mem.wf = true → s.kind s.sp = .ram → s.kind (s.sp - 1#16) = .ram →
    ∃ t, exec (.jsr o) s = .next t ∧ exec .rts t = .next { s with mem := t.mem }

/-! ## Traps, interrupts, special instructions -/

/-- R421: the vector addresses. -/
def Obligations.VectorTable : Prop :=
  resetVector .pin = 0xFFFE#16 ∧ resetVector .clockMonitor = 0xFFFC#16 ∧ resetVector .cop = 0xFFFA#16 ∧
  vector .illegalOpcode = 0xFFF8#16 ∧ vector .swi = 0xFFF6#16 ∧ vector .xirq = 0xFFF4#16 ∧
  defaultIrqLines.map (fun l => (vector (.irq l)).toNat) = (List.range 15).map (fun k => 0xFFF2 - 2 * k)

/-- R424: the trap entry, for every kind, return address and state. The nine bytes of the frame are written in the
order of the pushes, then the vector is read; I is set, X for XIRQ; every other flag and register but SP and PC is
unchanged. Where neither the frame nor the vector is a device's, the frame is all that changes in memory (on a
device's address the device may act, log entry 6). -/
def Obligations.TrapEntry : Prop :=
  ∀ (k : Trap) (ret : Word) (s : State), s.mem.wf = true →
    let t := trap k ret s
    let frame := frameBytes ret s
    t = enterHandler k (writeAll frame { s with sp := s.sp - 9#16 }) ∧
    StoresOnly (frame.map Prod.fst ++ [vector k, vector k + 1#16]) frame s t ∧
    OnlyAccess { s with
      sp := s.sp - 9#16, pc := t.pc, runState := .run, irqInhibit := false,
      ccr := { s.ccr with i := true, x := if k = .xirq then true else s.ccr.x } } t ∧
    (Storage s (vector k) → Storage s (vector k + 1#16) → t.pc = t.mem.wordAt (vector k))

/-- SWI traps, with the address after it as the return address, whatever I and X are (R401). Where neither the frame
nor the vector is a device's, the frame is all that changes in memory (log entry 6). -/
def Obligations.SoftwareInterrupt : Prop :=
  encode .swi = [0x3F#8] ∧
  ∀ (s : State), s.mem.wf = true → ∃ t, exec .swi s = .next t ∧ t = trap .swi s.pc s ∧
    StoresOnly ((frameBytes s.pc s).map Prod.fst ++ [0xFFF6#16, 0xFFF7#16]) (frameBytes s.pc s) s t ∧
    OnlyAccess { s with
      sp := s.sp - 9#16, pc := t.pc, ccr := { s.ccr with i := true }, runState := .run, irqInhibit := false } t ∧
    (Storage s 0xFFF6#16 → Storage s 0xFFF7#16 →
      t.pc.toNat = 256 * (t.mem.byteAt 0xFFF6#16).toNat + (t.mem.byteAt 0xFFF7#16).toNat)

/-- RTI: nine bytes from SP + 1 on are CCR, B, A, IX, IY, PC; X is only cleared; no byte of memory changes but by a
device whose address is read (R400; log entry 6). -/
def Obligations.ReturnFromInterrupt : Prop :=
  encode .rti = [0x3B#8] ∧
  ∀ (s t : State) (c b a xh xl yh yl ph pl : Byte),
    readRun 9 (s.sp + 1#16) s = ([c, b, a, xh, xl, yh, yl, ph, pl], t) →
      OnlyReads (addressRun 9 (s.sp + 1#16)) s t ∧
      exec .rti s = .next { t with
        a := a, b := b, ix := xh ++ xl, iy := yh ++ yl, pc := ph ++ pl, sp := s.sp + 9#16
        ccr := { s := c.getLsbD 7, x := s.ccr.x && c.getLsbD 6, h := c.getLsbD 5, i := c.getLsbD 4,
                 n := c.getLsbD 3, z := c.getLsbD 2, v := c.getLsbD 1, c := c.getLsbD 0 } }

/-- RTI is the inverse of the trap entry: on a stack in RAM, with a vector that is no device's (a device could store
over the frame, log entry 6), a handler that changes nothing but PC returns every register and flag, X and I included,
and PC is the stacked address. -/
def Obligations.ReturnUndoesTrap : Prop :=
  ∀ (k : Trap) (ret pc : Word) (s : State), s.mem.wf = true →
    (∀ n < 9, s.kind (s.sp - BitVec.ofNat 16 n) = .ram) → NoIO s [vector k, vector k + 1#16] →
    ∃ t, exec .rti { trap k ret s with pc := pc } = .next t ∧
      t.a = s.a ∧ t.b = s.b ∧ t.ix = s.ix ∧ t.iy = s.iy ∧ t.sp = s.sp ∧ t.ccr = s.ccr ∧ t.pc = ret

/-- WAI stacks the frame and waits; no flag changes (R402). -/
def Obligations.WaitForInterrupt : Prop :=
  encode .wai = [0x3E#8] ∧
  ∀ (s : State), s.mem.wf = true →
    StoresAs .wai (frameBytes s.pc s) s { s with sp := s.sp - 9#16, runState := .wait }

/-- STOP is a no-operation with S = 1 and stops the CPU with S = 0, stacking nothing; the level of XIRQ is recorded
then, for the edge of D15 (the record's form is the model's, log entry 24). TEST hangs in test mode and is
an illegal opcode elsewhere, with its own address (one before PC) or PC as the stacked address (R403, R404,
R427). -/
def Obligations.StopAndTest : Prop :=
  encode .stop = [0xCF#8] ∧ encode .test = [0x00#8] ∧
  ∀ (s : State),
    (s.ccr.s = true → exec .stop s = .next s) ∧
    (s.ccr.s = false → exec .stop s = .next { s with runState := .stop, xirqHeld := s.pending.xirq }) ∧
    (s.testMode = true → exec .test s = .next { s with runState := .testHang }) ∧
    (s.testMode = false → ∃ ret, (ret = s.pc - 1#16 ∨ ret = s.pc) ∧
      exec .test s = .next (trap .illegalOpcode ret s))

/-! ## The step -/

/-- When a boundary lets an instruction execute and the bytes at PC, in storage, decode to `i`, the step is `exec`
of `i` in the state whose PC is past the instruction and whose inhibit is cleared. -/
def Obligations.StepRunsDecoded : Prop :=
  ∀ (s : State) (bs : List Byte) (i : Instr),
    nextEvent s = .execute → CodeAt s s.pc bs → decode bs = .ok i [] →
    step s = exec i { s with irqInhibit := false, pc := s.pc + BitVec.ofNat 16 bs.length }

/-- An undefined opcode, on any page, takes the illegal-opcode trap and does nothing else: the stacked address is
that of its first byte or the one after the opcode (R102, R117, R427). -/
def Obligations.UndefinedOpcodeTraps : Prop :=
  ∀ (s : State) (bs : List Byte) (p : Page) (op : Byte),
    nextEvent s = .execute → CodeAt s s.pc bs → decode bs = .undefinedOpcode p op →
    (bs = [op] ∨ ∃ pre, bs = [pre, op] ∧ prebyte pre = some p) →
    ∃ ret, (ret = s.pc ∨ ret = s.pc + BitVec.ofNat 16 bs.length) ∧
      step s = .next (trap .illegalOpcode ret
        { s with irqInhibit := false, pc := s.pc + BitVec.ofNat 16 bs.length })

/-- R423: what a step does in RUN. That a requested reset is a bit of State, served at a boundary, is the model's form
(log entry 3). -/
def Obligations.StepInRun : Prop :=
  ∀ (s : State), s.runState = .run →
    (∀ k, requestedReset s.resets = some k → step s = .next (takeReset k s)) ∧
    (requestedReset s.resets = none →
      (s.pending.xirq = true → s.ccr.x = false → step s = .next (trap .xirq s.pc s)) ∧
      ((s.pending.xirq = false ∨ s.ccr.x = true) →
        (s.irqInhibit = true → step s = executeOne { s with irqInhibit := false }) ∧
        (s.irqInhibit = false →
          (∀ l before after, s.ccr.i = false → s.irqLines = before ++ l :: after → l ∈ s.pending.irqs →
            (∀ e ∈ before, e ∉ s.pending.irqs) → step s = .next (trap (.irq l) s.pc s)) ∧
          ((s.ccr.i = true ∨ ∀ l ∈ s.irqLines, l ∉ s.pending.irqs) → step s = executeOne s))))

/-- R402, R437: what ends WAIT, and that nothing else does but a reset. The entry stacks nothing: it reads the vector
and writes nothing, no register but PC changes, I is set, X for XIRQ, and PC is the word at the vector. That a vector
on a device's address lets the device act is log entry 6; that the wake-up is a step of its own, log entry 14. -/
def Obligations.StepInWait : Prop :=
  (∀ (k : Trap) (s : State),
    let t := enterHandler k s
    OnlyReads [vector k, vector k + 1#16] { s with
      pc := t.pc, runState := .run, irqInhibit := false,
      ccr := { s.ccr with i := true, x := if k = .xirq then true else s.ccr.x } } t ∧
    (Storage s (vector k) → Storage s (vector k + 1#16) → t.pc = s.mem.wordAt (vector k))) ∧
  ∀ (s : State), s.runState = .wait → requestedReset s.resets = none →
    (s.pending.xirq = true → s.ccr.x = false → step s = .next (enterHandler .xirq s)) ∧
    ((s.pending.xirq = false ∨ s.ccr.x = true) →
      (∀ l before after, s.ccr.i = false → s.irqLines = before ++ l :: after → l ∈ s.pending.irqs →
        (∀ e ∈ before, e ∉ s.pending.irqs) → step s = .next (enterHandler (.irq l) s)) ∧
      ((s.ccr.i = true ∨ ∀ l ∈ s.irqLines, l ∉ s.pending.irqs) → step s = .next s))

/-- R403, R437: what ends STOP: XIRQ with a trap or, masked, by an edge (D15) without; the IRQ pin if I = 0; nothing
else. That the edge is found from the levels at the step boundaries and the record `xirqHeld` is the model's form (log
entry 24), and so is that an edge resumes without a trap where the IRQ pin is let through as well (log entry 25), and
that the wake-up is a step of its own (log entry 14). -/
def Obligations.StepInStop : Prop :=
  ∀ (s : State), s.runState = .stop → requestedReset s.resets = none →
    (s.pending.xirq = true → s.ccr.x = false → step s = .next (trap .xirq s.pc s)) ∧
    (s.pending.xirq = true → s.ccr.x = true → s.xirqHeld = false → step s = .next { s with runState := .run }) ∧
    ((s.pending.xirq = false ∨ (s.ccr.x = true ∧ s.xirqHeld = true)) →
      (s.ccr.i = false → .irq ∈ s.irqLines → .irq ∈ s.pending.irqs →
        step s = .next (trap (.irq .irq) s.pc s)) ∧
      ((s.ccr.i = true ∨ .irq ∉ s.irqLines ∨ .irq ∉ s.pending.irqs) →
        step s = .next { s with xirqHeld := s.xirqHeld && s.pending.xirq }))

/-- D15 for R403: with X = 1 and the IRQ pin masked, an XIRQ that was asserted when STOP executed does not end STOP as
long as it stays asserted; once it is absent at a boundary, the next request ends STOP, without a trap, whatever the
maskable lines ask; one that was absent when STOP executed ends it at once. That Pending is what the platform has made
it between two steps is log entry 15; that levels are seen at boundaries, log entry 24. -/
def Obligations.StopEndsByXirqEdge : Prop :=
  ∀ (s t : State) (l m : List IrqLine), s.ccr.s = false → s.ccr.x = true → s.ccr.i = true →
    requestedReset s.resets = none → exec .stop s = .next t →
    let asks (p : Bool) (irqs : List IrqLine) (v : State) : State := { v with pending := { xirq := p, irqs := irqs } }
    let awake (irqs : List IrqLine) : State := asks true irqs { s with xirqHeld := false }
    (s.pending.xirq = true → step t = .next t ∧ step (asks true l t) = .next (asks true l t) ∧
      ∃ u, step (asks false l t) = .next u ∧ u.runState = .stop ∧
        step (asks true m u) = .next { awake m with runState := .run }) ∧
    (s.pending.xirq = false → step (asks true l t) = .next { awake l with runState := .run })

/-- R425, R404, R438, R460: a requested reset is taken in every `RunState`, `Reset` before `ClockMonitor` before
`COP`, and nothing else leaves TESTHANG. -/
def Obligations.ResetTaken : Prop :=
  ∀ (s : State),
    (s.resets.pin = true → step s = .next (takeReset .pin s)) ∧
    (s.resets.pin = false → s.resets.clockMonitor = true → step s = .next (takeReset .clockMonitor s)) ∧
    (s.resets.pin = false → s.resets.clockMonitor = false → s.resets.cop = true →
      step s = .next (takeReset .cop s)) ∧
    (s.runState = .testHang → s.resets.pin = false → s.resets.clockMonitor = false → s.resets.cop = false →
      step s = .next s)

/-- R460, R439: what a reset does. Nothing is pushed and no byte of memory is written: the one access is the read of
the vector, by which only a device's address could act (log entry 6). The registers and flags that R460 leaves
unspecified are not mentioned. -/
def Obligations.ResetEffect : Prop :=
  ∀ (k : ResetKind) (s : State),
    let t := takeReset k s
    t.ccr.s = true ∧ t.ccr.x = true ∧ t.ccr.i = true ∧ t.runState = .run ∧ t.irqInhibit = false ∧
    (∃ u : State, u.mem = s.mem ∧ u.memMap = s.memMap ∧ u.pending = s.pending ∧ u.device = s.device ∧
      t = { (readWord (resetVector k) u).2 with pc := (readWord (resetVector k) u).1 }) ∧
    (NoIO s [resetVector k, resetVector k + 1#16] → t.mem = s.mem) ∧
    (Storage s (resetVector k) → Storage s (resetVector k + 1#16) → t.pc = s.mem.wordAt (resetVector k))

/-- R42: the values the spec gives the machine right after reset. -/
def Obligations.ResetState : Prop :=
  let r := State.reset
  r.ccr.s = true ∧ r.ccr.x = true ∧ r.ccr.i = true ∧ r.runState = .run ∧ r.irqInhibit = false ∧
  r.pc.toNat = 256 * (r.mem.byteAt 0xFFFE#16).toNat + (r.mem.byteAt 0xFFFF#16).toNat

/-- After a CLI that clears I, a pending maskable request waits for one more instruction and is taken at the
boundary after it, if that instruction leaves I clear (R466). -/
def Obligations.ClearedMaskDelay : Prop :=
  ∀ (s t u : State), s.runState = .run → s.ccr.i = true → s.ccr.x = true → requestedReset s.resets = none →
    exec .cli s = .next t → step t = .next u →
    nextEvent t = .execute ∧
    (u.runState = .run → requestedReset u.resets = none → u.ccr.x = true → u.ccr.i = false →
      u.irqInhibit = false → ∀ l ∈ u.irqLines, l ∈ u.pending.irqs → ∃ e, nextEvent u = .trap (.irq e))

/-! ## Rules of the whole machine -/

/-- Every step keeps the invariant: memory in canonical form, the inhibit only in RUN with I clear, STOP only with
S clear, TESTHANG only in test mode. -/
def Obligations.StepKeepsInv : Prop :=
  ∀ (s t : State), Inv s → step s = .next t → Inv t

/-- The invariant holds after reset. -/
def Obligations.ResetInv : Prop := Inv State.reset

/-- Every step answers a next state: the machine has no fault and refuses nothing (R69, R420; at IO addresses by the
model's form of devices, log entry 6). -/
def Obligations.StepNeverStops : Prop := ∀ (s : State), ∃ t, step s = .next t

/-- R34: no instruction sets X; a step sets it only by taking a reset or an XIRQ; while it is 1 XIRQ is not
taken. -/
def Obligations.XOnlyCleared : Prop :=
  (∀ (i : Instr) (s t : State), exec i s = .next t → t.ccr.x = true → s.ccr.x = true) ∧
  (∀ (s t : State), step s = .next t → s.ccr.x = false → t.ccr.x = true →
    (∃ k, nextEvent s = .reset k) ∨ nextEvent s = .trap .xirq ∨ nextEvent s = .wake .xirq) ∧
  (∀ (s : State), s.ccr.x = true → nextEvent s ≠ .trap .xirq ∧ nextEvent s ≠ .wake .xirq)

/-- Which instructions write S, H, I, and the inhibit, and in which direction they may move I (R33, R35, R32,
R40). -/
def Obligations.MaskBitWriters : Prop :=
  ∀ (i : Instr) (s t : State), exec i s = .next t →
    (t.ccr.s ≠ s.ccr.s → i = .tap ∨ i = .rti) ∧
    (t.ccr.h ≠ s.ccr.h → (∃ o, i = .adda o ∨ i = .addb o ∨ i = .adca o ∨ i = .adcb o) ∨
      i = .aba ∨ i = .tap ∨ i = .rti) ∧
    (s.ccr.i = true → t.ccr.i = false → i = .cli ∨ i = .tap ∨ i = .rti) ∧
    (s.ccr.i = false → t.ccr.i = true → i = .sei ∨ i = .tap ∨ i = .rti ∨ i = .swi ∨ i = .test) ∧
    (s.irqInhibit = false → t.irqInhibit = true →
      (i = .cli ∨ i = .tap) ∧ s.ccr.i = true ∧ t.ccr.i = false)

/-- No step changes the parameters, nor a byte of the model's memory at an address that is not RAM (R69). At an IO
address that byte is the model's own, which no read answers: R67 lets later reads there answer what the device
defines, and they do. That no device changes ROM is the model's form of devices (log entry 6); that the parameters are
fields of State is log entries 4, 7 and 9. -/
def Obligations.StepKeepsRomAndMap : Prop :=
  ∀ (s t : State), s.mem.wf = true → step s = .next t →
    t.memMap = s.memMap ∧ t.irqLines = s.irqLines ∧ t.testMode = s.testMode ∧
    ∀ a, s.kind a ≠ .ram → t.mem.byteAt a = s.mem.byteAt a

/-- R470: a final state is mapped to itself, for ever. In STOP the model's record of XIRQ's level may follow it once
(log entry 24); the state is final as before and then stays whole. -/
def Obligations.FinalStatesStay : Prop :=
  ∀ (s : State), Final s →
    let t : State :=
      { s with xirqHeld := if s.runState = .stop then s.xirqHeld && s.pending.xirq else s.xirqHeld }
    step s = .next t ∧ Final t ∧ step t = .next t
end

