-- ==== Sys2Proof/Laws/Memory.lean ====
section
/-! SUPPORT. The laws of memory: what a byte reads after a write, and the canonical form kept. -/

namespace Sys2Proof.Machine

theorem Memory.read_eq_unlisted_of_wfFrom {low : Nat} {m : Memory} (h : m.wfFrom low = true) {a : Nat}
    (ha : a < low) : m.read a = Memory.unlisted := by
  induction m generalizing low with
  | nil => rfl
  | cons e rest ih =>
    obtain ⟨k, v⟩ := e
    simp only [Memory.wfFrom, Bool.and_eq_true, decide_eq_true_eq] at h
    rw [Memory.read, if_neg (by omega)]
    exact ih h.2 (by omega)

/-- In canonical form a write changes the byte at its address and no other. -/
theorem Memory.read_write {low : Nat} {m : Memory} (h : m.wfFrom low = true) (a : Nat) (v : Byte) (x : Nat) :
    (m.write a v).read x = if x = a then v else m.read x := by
  induction m generalizing low with
  | nil =>
    simp only [Memory.write]
    by_cases hv : v = Memory.unlisted
    · simp [hv, Memory.read]
    · by_cases hx : x = a
      · simp [hv, hx, Memory.read]
      · simpa [hv, hx, Memory.read] using fun h : a = x => hx h.symm
  | cons e rest ih =>
    obtain ⟨k, w⟩ := e
    simp only [Memory.wfFrom, Bool.and_eq_true, decide_eq_true_eq] at h
    have hrest := h.2
    simp only [Memory.write]
    split
    · have hk : Memory.read ((k, w) :: rest) a = Memory.unlisted := by
        rw [Memory.read, if_neg (by omega)]
        exact Memory.read_eq_unlisted_of_wfFrom hrest (by omega)
      split
      · by_cases hx : x = a
        · subst hx; simp_all
        · simp [hx]
      · by_cases hx : x = a
        · simp [Memory.read, hx]
        · rw [Memory.read, if_neg (by omega), if_neg hx]
    · split
      · rename_i hak
        subst hak
        have hk : Memory.read rest a = Memory.unlisted :=
          Memory.read_eq_unlisted_of_wfFrom hrest (by omega)
        split
        · by_cases hx : x = a
          · subst hx; simp_all
          · simp only [Memory.read, if_neg hx, if_neg (fun h : a = x => hx h.symm)]
        · by_cases hx : x = a
          · simp [Memory.read, hx]
          · simp only [Memory.read, if_neg hx, if_neg (fun h : a = x => hx h.symm)]
      · by_cases hx : x = k
        · subst hx
          have hxa : x ≠ a := by omega
          simp [Memory.read, hxa]
        · simp only [Memory.read, if_neg (fun h : k = x => hx h.symm), ih hrest]

theorem Memory.wfFrom_write {low : Nat} {m : Memory} (h : m.wfFrom low = true) {a : Nat} (hl : low ≤ a)
    (ha : a < 65536) (v : Byte) : (m.write a v).wfFrom low = true := by
  induction m generalizing low with
  | nil =>
    simp only [Memory.write]
    split
    · rfl
    · simp_all [Memory.wfFrom]
  | cons e rest ih =>
    obtain ⟨k, w⟩ := e
    simp only [Memory.wfFrom, Bool.and_eq_true, decide_eq_true_eq] at h
    obtain ⟨⟨⟨h1, h2⟩, h3⟩, h4⟩ := h
    simp only [Memory.write]
    split
    · split
      · simp_all [Memory.wfFrom]
      · simp only [Memory.wfFrom, Bool.and_eq_true, decide_eq_true_eq]
        exact ⟨⟨⟨hl, ha⟩, by assumption⟩, ⟨⟨by omega, h2⟩, h3⟩, h4⟩
    · split
      · split
        · cases rest with
          | nil => rfl
          | cons e' rest' =>
            obtain ⟨k', w'⟩ := e'
            simp only [Memory.wfFrom, Bool.and_eq_true, decide_eq_true_eq] at h4 ⊢
            exact ⟨⟨⟨by omega, h4.1.1.2⟩, h4.1.2⟩, h4.2⟩
        · simp only [Memory.wfFrom, Bool.and_eq_true, decide_eq_true_eq]
          rename_i hk _
          subst hk
          exact ⟨⟨⟨hl, ha⟩, by assumption⟩, h4⟩
      · simp only [Memory.wfFrom, Bool.and_eq_true, decide_eq_true_eq]
        exact ⟨⟨⟨h1, h2⟩, h3⟩, ih h4 (by omega)⟩

/-- A write to a machine address keeps the canonical form. -/
theorem Memory.wf_write {m : Memory} (h : m.wf = true) (a : Word) (v : Byte) : (m.write a.toNat v).wf = true :=
  Memory.wfFrom_write h (Nat.zero_le _) a.isLt v

/-- In canonical form, the byte at a machine address after a write to one. -/
theorem Memory.byteAt_write {m : Memory} (h : m.wf = true) (a : Word) (v : Byte) (x : Word) :
    (m.write a.toNat v).byteAt x = if x = a then v else m.byteAt x := by
  simp only [Memory.byteAt, Memory.read_write h, BitVec.toNat_inj]

/-- A write leaves every other address alone, in any list. -/
theorem Memory.read_write_ne (m : Memory) {a x : Nat} (h : x ≠ a) (v : Byte) : (m.write a v).read x = m.read x := by
  have h' : a ≠ x := fun e => h e.symm
  induction m with
  | nil => simp only [Memory.write]; split <;> simp [Memory.read, h']
  | cons e rest ih =>
    obtain ⟨k, w⟩ := e
    simp only [Memory.write]
    split
    · split <;> simp [Memory.read, h']
    · split
      · rename_i hk
        subst hk
        split <;> simp [Memory.read, h']
      · simp only [Memory.read, ih]

/-- A write leaves the byte at every other machine address alone. -/
theorem Memory.byteAt_write_ne (m : Memory) {a x : Word} (h : x ≠ a) (v : Byte) :
    (m.write a.toNat v).byteAt x = m.byteAt x :=
  Memory.read_write_ne m (fun e => h (BitVec.eq_of_toNat_eq e)) v

/-- Placing bytes keeps the canonical form. -/
theorem Memory.wf_load {m : Memory} (h : m.wf = true) (a : Word) (bs : List Byte) : (m.load a bs).wf = true := by
  induction bs generalizing m a with
  | nil => exact h
  | cons b rest ih => exact ih (Memory.wf_write h a b) _

/-- The memory of the reset state is in canonical form. -/
theorem State.reset_mem_wf : State.reset.mem.wf = true := rfl

end Sys2Proof.Machine
end

