-- ==== Sys2Proof/Laws/State.lean ====
section
/-! SUPPORT. One lemma per field per update of State: what reading a field of an updated state gives. -/

namespace Sys2Proof.Machine

@[simp] theorem State.setA_a (s : State) (v : Byte) : (s.setA v).a = v := rfl
@[simp] theorem State.setA_b (s : State) (v : Byte) : (s.setA v).b = s.b := rfl
@[simp] theorem State.setA_ix (s : State) (v : Byte) : (s.setA v).ix = s.ix := rfl
@[simp] theorem State.setA_iy (s : State) (v : Byte) : (s.setA v).iy = s.iy := rfl
@[simp] theorem State.setA_sp (s : State) (v : Byte) : (s.setA v).sp = s.sp := rfl
@[simp] theorem State.setA_pc (s : State) (v : Byte) : (s.setA v).pc = s.pc := rfl
@[simp] theorem State.setA_ccr (s : State) (v : Byte) : (s.setA v).ccr = s.ccr := rfl
@[simp] theorem State.setA_runState (s : State) (v : Byte) : (s.setA v).runState = s.runState := rfl
@[simp] theorem State.setA_pending (s : State) (v : Byte) : (s.setA v).pending = s.pending := rfl
@[simp] theorem State.setA_irqInhibit (s : State) (v : Byte) : (s.setA v).irqInhibit = s.irqInhibit := rfl
@[simp] theorem State.setA_xirqHeld (s : State) (v : Byte) : (s.setA v).xirqHeld = s.xirqHeld := rfl
@[simp] theorem State.setA_resets (s : State) (v : Byte) : (s.setA v).resets = s.resets := rfl
@[simp] theorem State.setA_mem (s : State) (v : Byte) : (s.setA v).mem = s.mem := rfl
@[simp] theorem State.setA_memMap (s : State) (v : Byte) : (s.setA v).memMap = s.memMap := rfl
@[simp] theorem State.setA_irqLines (s : State) (v : Byte) : (s.setA v).irqLines = s.irqLines := rfl
@[simp] theorem State.setA_testMode (s : State) (v : Byte) : (s.setA v).testMode = s.testMode := rfl
@[simp] theorem State.setA_device (s : State) (v : Byte) : (s.setA v).device = s.device := rfl
@[simp] theorem State.setA_draws (s : State) (v : Byte) : (s.setA v).draws = s.draws := rfl

@[simp] theorem State.setB_a (s : State) (v : Byte) : (s.setB v).a = s.a := rfl
@[simp] theorem State.setB_b (s : State) (v : Byte) : (s.setB v).b = v := rfl
@[simp] theorem State.setB_ix (s : State) (v : Byte) : (s.setB v).ix = s.ix := rfl
@[simp] theorem State.setB_iy (s : State) (v : Byte) : (s.setB v).iy = s.iy := rfl
@[simp] theorem State.setB_sp (s : State) (v : Byte) : (s.setB v).sp = s.sp := rfl
@[simp] theorem State.setB_pc (s : State) (v : Byte) : (s.setB v).pc = s.pc := rfl
@[simp] theorem State.setB_ccr (s : State) (v : Byte) : (s.setB v).ccr = s.ccr := rfl
@[simp] theorem State.setB_runState (s : State) (v : Byte) : (s.setB v).runState = s.runState := rfl
@[simp] theorem State.setB_pending (s : State) (v : Byte) : (s.setB v).pending = s.pending := rfl
@[simp] theorem State.setB_irqInhibit (s : State) (v : Byte) : (s.setB v).irqInhibit = s.irqInhibit := rfl
@[simp] theorem State.setB_xirqHeld (s : State) (v : Byte) : (s.setB v).xirqHeld = s.xirqHeld := rfl
@[simp] theorem State.setB_resets (s : State) (v : Byte) : (s.setB v).resets = s.resets := rfl
@[simp] theorem State.setB_mem (s : State) (v : Byte) : (s.setB v).mem = s.mem := rfl
@[simp] theorem State.setB_memMap (s : State) (v : Byte) : (s.setB v).memMap = s.memMap := rfl
@[simp] theorem State.setB_irqLines (s : State) (v : Byte) : (s.setB v).irqLines = s.irqLines := rfl
@[simp] theorem State.setB_testMode (s : State) (v : Byte) : (s.setB v).testMode = s.testMode := rfl
@[simp] theorem State.setB_device (s : State) (v : Byte) : (s.setB v).device = s.device := rfl
@[simp] theorem State.setB_draws (s : State) (v : Byte) : (s.setB v).draws = s.draws := rfl

@[simp] theorem State.setIX_a (s : State) (v : Word) : (s.setIX v).a = s.a := rfl
@[simp] theorem State.setIX_b (s : State) (v : Word) : (s.setIX v).b = s.b := rfl
@[simp] theorem State.setIX_ix (s : State) (v : Word) : (s.setIX v).ix = v := rfl
@[simp] theorem State.setIX_iy (s : State) (v : Word) : (s.setIX v).iy = s.iy := rfl
@[simp] theorem State.setIX_sp (s : State) (v : Word) : (s.setIX v).sp = s.sp := rfl
@[simp] theorem State.setIX_pc (s : State) (v : Word) : (s.setIX v).pc = s.pc := rfl
@[simp] theorem State.setIX_ccr (s : State) (v : Word) : (s.setIX v).ccr = s.ccr := rfl
@[simp] theorem State.setIX_runState (s : State) (v : Word) : (s.setIX v).runState = s.runState := rfl
@[simp] theorem State.setIX_pending (s : State) (v : Word) : (s.setIX v).pending = s.pending := rfl
@[simp] theorem State.setIX_irqInhibit (s : State) (v : Word) : (s.setIX v).irqInhibit = s.irqInhibit := rfl
@[simp] theorem State.setIX_xirqHeld (s : State) (v : Word) : (s.setIX v).xirqHeld = s.xirqHeld := rfl
@[simp] theorem State.setIX_resets (s : State) (v : Word) : (s.setIX v).resets = s.resets := rfl
@[simp] theorem State.setIX_mem (s : State) (v : Word) : (s.setIX v).mem = s.mem := rfl
@[simp] theorem State.setIX_memMap (s : State) (v : Word) : (s.setIX v).memMap = s.memMap := rfl
@[simp] theorem State.setIX_irqLines (s : State) (v : Word) : (s.setIX v).irqLines = s.irqLines := rfl
@[simp] theorem State.setIX_testMode (s : State) (v : Word) : (s.setIX v).testMode = s.testMode := rfl
@[simp] theorem State.setIX_device (s : State) (v : Word) : (s.setIX v).device = s.device := rfl
@[simp] theorem State.setIX_draws (s : State) (v : Word) : (s.setIX v).draws = s.draws := rfl

@[simp] theorem State.setIY_a (s : State) (v : Word) : (s.setIY v).a = s.a := rfl
@[simp] theorem State.setIY_b (s : State) (v : Word) : (s.setIY v).b = s.b := rfl
@[simp] theorem State.setIY_ix (s : State) (v : Word) : (s.setIY v).ix = s.ix := rfl
@[simp] theorem State.setIY_iy (s : State) (v : Word) : (s.setIY v).iy = v := rfl
@[simp] theorem State.setIY_sp (s : State) (v : Word) : (s.setIY v).sp = s.sp := rfl
@[simp] theorem State.setIY_pc (s : State) (v : Word) : (s.setIY v).pc = s.pc := rfl
@[simp] theorem State.setIY_ccr (s : State) (v : Word) : (s.setIY v).ccr = s.ccr := rfl
@[simp] theorem State.setIY_runState (s : State) (v : Word) : (s.setIY v).runState = s.runState := rfl
@[simp] theorem State.setIY_pending (s : State) (v : Word) : (s.setIY v).pending = s.pending := rfl
@[simp] theorem State.setIY_irqInhibit (s : State) (v : Word) : (s.setIY v).irqInhibit = s.irqInhibit := rfl
@[simp] theorem State.setIY_xirqHeld (s : State) (v : Word) : (s.setIY v).xirqHeld = s.xirqHeld := rfl
@[simp] theorem State.setIY_resets (s : State) (v : Word) : (s.setIY v).resets = s.resets := rfl
@[simp] theorem State.setIY_mem (s : State) (v : Word) : (s.setIY v).mem = s.mem := rfl
@[simp] theorem State.setIY_memMap (s : State) (v : Word) : (s.setIY v).memMap = s.memMap := rfl
@[simp] theorem State.setIY_irqLines (s : State) (v : Word) : (s.setIY v).irqLines = s.irqLines := rfl
@[simp] theorem State.setIY_testMode (s : State) (v : Word) : (s.setIY v).testMode = s.testMode := rfl
@[simp] theorem State.setIY_device (s : State) (v : Word) : (s.setIY v).device = s.device := rfl
@[simp] theorem State.setIY_draws (s : State) (v : Word) : (s.setIY v).draws = s.draws := rfl

@[simp] theorem State.setSP_a (s : State) (v : Word) : (s.setSP v).a = s.a := rfl
@[simp] theorem State.setSP_b (s : State) (v : Word) : (s.setSP v).b = s.b := rfl
@[simp] theorem State.setSP_ix (s : State) (v : Word) : (s.setSP v).ix = s.ix := rfl
@[simp] theorem State.setSP_iy (s : State) (v : Word) : (s.setSP v).iy = s.iy := rfl
@[simp] theorem State.setSP_sp (s : State) (v : Word) : (s.setSP v).sp = v := rfl
@[simp] theorem State.setSP_pc (s : State) (v : Word) : (s.setSP v).pc = s.pc := rfl
@[simp] theorem State.setSP_ccr (s : State) (v : Word) : (s.setSP v).ccr = s.ccr := rfl
@[simp] theorem State.setSP_runState (s : State) (v : Word) : (s.setSP v).runState = s.runState := rfl
@[simp] theorem State.setSP_pending (s : State) (v : Word) : (s.setSP v).pending = s.pending := rfl
@[simp] theorem State.setSP_irqInhibit (s : State) (v : Word) : (s.setSP v).irqInhibit = s.irqInhibit := rfl
@[simp] theorem State.setSP_xirqHeld (s : State) (v : Word) : (s.setSP v).xirqHeld = s.xirqHeld := rfl
@[simp] theorem State.setSP_resets (s : State) (v : Word) : (s.setSP v).resets = s.resets := rfl
@[simp] theorem State.setSP_mem (s : State) (v : Word) : (s.setSP v).mem = s.mem := rfl
@[simp] theorem State.setSP_memMap (s : State) (v : Word) : (s.setSP v).memMap = s.memMap := rfl
@[simp] theorem State.setSP_irqLines (s : State) (v : Word) : (s.setSP v).irqLines = s.irqLines := rfl
@[simp] theorem State.setSP_testMode (s : State) (v : Word) : (s.setSP v).testMode = s.testMode := rfl
@[simp] theorem State.setSP_device (s : State) (v : Word) : (s.setSP v).device = s.device := rfl
@[simp] theorem State.setSP_draws (s : State) (v : Word) : (s.setSP v).draws = s.draws := rfl

@[simp] theorem State.setPC_a (s : State) (v : Word) : (s.setPC v).a = s.a := rfl
@[simp] theorem State.setPC_b (s : State) (v : Word) : (s.setPC v).b = s.b := rfl
@[simp] theorem State.setPC_ix (s : State) (v : Word) : (s.setPC v).ix = s.ix := rfl
@[simp] theorem State.setPC_iy (s : State) (v : Word) : (s.setPC v).iy = s.iy := rfl
@[simp] theorem State.setPC_sp (s : State) (v : Word) : (s.setPC v).sp = s.sp := rfl
@[simp] theorem State.setPC_pc (s : State) (v : Word) : (s.setPC v).pc = v := rfl
@[simp] theorem State.setPC_ccr (s : State) (v : Word) : (s.setPC v).ccr = s.ccr := rfl
@[simp] theorem State.setPC_runState (s : State) (v : Word) : (s.setPC v).runState = s.runState := rfl
@[simp] theorem State.setPC_pending (s : State) (v : Word) : (s.setPC v).pending = s.pending := rfl
@[simp] theorem State.setPC_irqInhibit (s : State) (v : Word) : (s.setPC v).irqInhibit = s.irqInhibit := rfl
@[simp] theorem State.setPC_xirqHeld (s : State) (v : Word) : (s.setPC v).xirqHeld = s.xirqHeld := rfl
@[simp] theorem State.setPC_resets (s : State) (v : Word) : (s.setPC v).resets = s.resets := rfl
@[simp] theorem State.setPC_mem (s : State) (v : Word) : (s.setPC v).mem = s.mem := rfl
@[simp] theorem State.setPC_memMap (s : State) (v : Word) : (s.setPC v).memMap = s.memMap := rfl
@[simp] theorem State.setPC_irqLines (s : State) (v : Word) : (s.setPC v).irqLines = s.irqLines := rfl
@[simp] theorem State.setPC_testMode (s : State) (v : Word) : (s.setPC v).testMode = s.testMode := rfl
@[simp] theorem State.setPC_device (s : State) (v : Word) : (s.setPC v).device = s.device := rfl
@[simp] theorem State.setPC_draws (s : State) (v : Word) : (s.setPC v).draws = s.draws := rfl

@[simp] theorem State.setCcr_a (s : State) (v : Ccr) : (s.setCcr v).a = s.a := rfl
@[simp] theorem State.setCcr_b (s : State) (v : Ccr) : (s.setCcr v).b = s.b := rfl
@[simp] theorem State.setCcr_ix (s : State) (v : Ccr) : (s.setCcr v).ix = s.ix := rfl
@[simp] theorem State.setCcr_iy (s : State) (v : Ccr) : (s.setCcr v).iy = s.iy := rfl
@[simp] theorem State.setCcr_sp (s : State) (v : Ccr) : (s.setCcr v).sp = s.sp := rfl
@[simp] theorem State.setCcr_pc (s : State) (v : Ccr) : (s.setCcr v).pc = s.pc := rfl
@[simp] theorem State.setCcr_ccr (s : State) (v : Ccr) : (s.setCcr v).ccr = v := rfl
@[simp] theorem State.setCcr_runState (s : State) (v : Ccr) : (s.setCcr v).runState = s.runState := rfl
@[simp] theorem State.setCcr_pending (s : State) (v : Ccr) : (s.setCcr v).pending = s.pending := rfl
@[simp] theorem State.setCcr_irqInhibit (s : State) (v : Ccr) : (s.setCcr v).irqInhibit = s.irqInhibit := rfl
@[simp] theorem State.setCcr_xirqHeld (s : State) (v : Ccr) : (s.setCcr v).xirqHeld = s.xirqHeld := rfl
@[simp] theorem State.setCcr_resets (s : State) (v : Ccr) : (s.setCcr v).resets = s.resets := rfl
@[simp] theorem State.setCcr_mem (s : State) (v : Ccr) : (s.setCcr v).mem = s.mem := rfl
@[simp] theorem State.setCcr_memMap (s : State) (v : Ccr) : (s.setCcr v).memMap = s.memMap := rfl
@[simp] theorem State.setCcr_irqLines (s : State) (v : Ccr) : (s.setCcr v).irqLines = s.irqLines := rfl
@[simp] theorem State.setCcr_testMode (s : State) (v : Ccr) : (s.setCcr v).testMode = s.testMode := rfl
@[simp] theorem State.setCcr_device (s : State) (v : Ccr) : (s.setCcr v).device = s.device := rfl
@[simp] theorem State.setCcr_draws (s : State) (v : Ccr) : (s.setCcr v).draws = s.draws := rfl

@[simp] theorem State.setRunState_a (s : State) (v : RunState) : (s.setRunState v).a = s.a := rfl
@[simp] theorem State.setRunState_b (s : State) (v : RunState) : (s.setRunState v).b = s.b := rfl
@[simp] theorem State.setRunState_ix (s : State) (v : RunState) : (s.setRunState v).ix = s.ix := rfl
@[simp] theorem State.setRunState_iy (s : State) (v : RunState) : (s.setRunState v).iy = s.iy := rfl
@[simp] theorem State.setRunState_sp (s : State) (v : RunState) : (s.setRunState v).sp = s.sp := rfl
@[simp] theorem State.setRunState_pc (s : State) (v : RunState) : (s.setRunState v).pc = s.pc := rfl
@[simp] theorem State.setRunState_ccr (s : State) (v : RunState) : (s.setRunState v).ccr = s.ccr := rfl
@[simp] theorem State.setRunState_runState (s : State) (v : RunState) : (s.setRunState v).runState = v := rfl
@[simp] theorem State.setRunState_pending (s : State) (v : RunState) : (s.setRunState v).pending = s.pending := rfl
@[simp] theorem State.setRunState_irqInhibit (s : State) (v : RunState) : (s.setRunState v).irqInhibit = s.irqInhibit := rfl
@[simp] theorem State.setRunState_xirqHeld (s : State) (v : RunState) : (s.setRunState v).xirqHeld = s.xirqHeld := rfl
@[simp] theorem State.setRunState_resets (s : State) (v : RunState) : (s.setRunState v).resets = s.resets := rfl
@[simp] theorem State.setRunState_mem (s : State) (v : RunState) : (s.setRunState v).mem = s.mem := rfl
@[simp] theorem State.setRunState_memMap (s : State) (v : RunState) : (s.setRunState v).memMap = s.memMap := rfl
@[simp] theorem State.setRunState_irqLines (s : State) (v : RunState) : (s.setRunState v).irqLines = s.irqLines := rfl
@[simp] theorem State.setRunState_testMode (s : State) (v : RunState) : (s.setRunState v).testMode = s.testMode := rfl
@[simp] theorem State.setRunState_device (s : State) (v : RunState) : (s.setRunState v).device = s.device := rfl
@[simp] theorem State.setRunState_draws (s : State) (v : RunState) : (s.setRunState v).draws = s.draws := rfl

@[simp] theorem State.setPending_a (s : State) (v : Pending) : (s.setPending v).a = s.a := rfl
@[simp] theorem State.setPending_b (s : State) (v : Pending) : (s.setPending v).b = s.b := rfl
@[simp] theorem State.setPending_ix (s : State) (v : Pending) : (s.setPending v).ix = s.ix := rfl
@[simp] theorem State.setPending_iy (s : State) (v : Pending) : (s.setPending v).iy = s.iy := rfl
@[simp] theorem State.setPending_sp (s : State) (v : Pending) : (s.setPending v).sp = s.sp := rfl
@[simp] theorem State.setPending_pc (s : State) (v : Pending) : (s.setPending v).pc = s.pc := rfl
@[simp] theorem State.setPending_ccr (s : State) (v : Pending) : (s.setPending v).ccr = s.ccr := rfl
@[simp] theorem State.setPending_runState (s : State) (v : Pending) : (s.setPending v).runState = s.runState := rfl
@[simp] theorem State.setPending_pending (s : State) (v : Pending) : (s.setPending v).pending = v := rfl
@[simp] theorem State.setPending_irqInhibit (s : State) (v : Pending) : (s.setPending v).irqInhibit = s.irqInhibit := rfl
@[simp] theorem State.setPending_xirqHeld (s : State) (v : Pending) : (s.setPending v).xirqHeld = s.xirqHeld := rfl
@[simp] theorem State.setPending_resets (s : State) (v : Pending) : (s.setPending v).resets = s.resets := rfl
@[simp] theorem State.setPending_mem (s : State) (v : Pending) : (s.setPending v).mem = s.mem := rfl
@[simp] theorem State.setPending_memMap (s : State) (v : Pending) : (s.setPending v).memMap = s.memMap := rfl
@[simp] theorem State.setPending_irqLines (s : State) (v : Pending) : (s.setPending v).irqLines = s.irqLines := rfl
@[simp] theorem State.setPending_testMode (s : State) (v : Pending) : (s.setPending v).testMode = s.testMode := rfl
@[simp] theorem State.setPending_device (s : State) (v : Pending) : (s.setPending v).device = s.device := rfl
@[simp] theorem State.setPending_draws (s : State) (v : Pending) : (s.setPending v).draws = s.draws := rfl

@[simp] theorem State.setIrqInhibit_a (s : State) (v : Bool) : (s.setIrqInhibit v).a = s.a := rfl
@[simp] theorem State.setIrqInhibit_b (s : State) (v : Bool) : (s.setIrqInhibit v).b = s.b := rfl
@[simp] theorem State.setIrqInhibit_ix (s : State) (v : Bool) : (s.setIrqInhibit v).ix = s.ix := rfl
@[simp] theorem State.setIrqInhibit_iy (s : State) (v : Bool) : (s.setIrqInhibit v).iy = s.iy := rfl
@[simp] theorem State.setIrqInhibit_sp (s : State) (v : Bool) : (s.setIrqInhibit v).sp = s.sp := rfl
@[simp] theorem State.setIrqInhibit_pc (s : State) (v : Bool) : (s.setIrqInhibit v).pc = s.pc := rfl
@[simp] theorem State.setIrqInhibit_ccr (s : State) (v : Bool) : (s.setIrqInhibit v).ccr = s.ccr := rfl
@[simp] theorem State.setIrqInhibit_runState (s : State) (v : Bool) : (s.setIrqInhibit v).runState = s.runState := rfl
@[simp] theorem State.setIrqInhibit_pending (s : State) (v : Bool) : (s.setIrqInhibit v).pending = s.pending := rfl
@[simp] theorem State.setIrqInhibit_irqInhibit (s : State) (v : Bool) : (s.setIrqInhibit v).irqInhibit = v := rfl
@[simp] theorem State.setIrqInhibit_xirqHeld (s : State) (v : Bool) : (s.setIrqInhibit v).xirqHeld = s.xirqHeld := rfl
@[simp] theorem State.setIrqInhibit_resets (s : State) (v : Bool) : (s.setIrqInhibit v).resets = s.resets := rfl
@[simp] theorem State.setIrqInhibit_mem (s : State) (v : Bool) : (s.setIrqInhibit v).mem = s.mem := rfl
@[simp] theorem State.setIrqInhibit_memMap (s : State) (v : Bool) : (s.setIrqInhibit v).memMap = s.memMap := rfl
@[simp] theorem State.setIrqInhibit_irqLines (s : State) (v : Bool) : (s.setIrqInhibit v).irqLines = s.irqLines := rfl
@[simp] theorem State.setIrqInhibit_testMode (s : State) (v : Bool) : (s.setIrqInhibit v).testMode = s.testMode := rfl
@[simp] theorem State.setIrqInhibit_device (s : State) (v : Bool) : (s.setIrqInhibit v).device = s.device := rfl
@[simp] theorem State.setIrqInhibit_draws (s : State) (v : Bool) : (s.setIrqInhibit v).draws = s.draws := rfl

@[simp] theorem State.setXirqHeld_a (s : State) (v : Bool) : (s.setXirqHeld v).a = s.a := rfl
@[simp] theorem State.setXirqHeld_b (s : State) (v : Bool) : (s.setXirqHeld v).b = s.b := rfl
@[simp] theorem State.setXirqHeld_ix (s : State) (v : Bool) : (s.setXirqHeld v).ix = s.ix := rfl
@[simp] theorem State.setXirqHeld_iy (s : State) (v : Bool) : (s.setXirqHeld v).iy = s.iy := rfl
@[simp] theorem State.setXirqHeld_sp (s : State) (v : Bool) : (s.setXirqHeld v).sp = s.sp := rfl
@[simp] theorem State.setXirqHeld_pc (s : State) (v : Bool) : (s.setXirqHeld v).pc = s.pc := rfl
@[simp] theorem State.setXirqHeld_ccr (s : State) (v : Bool) : (s.setXirqHeld v).ccr = s.ccr := rfl
@[simp] theorem State.setXirqHeld_runState (s : State) (v : Bool) : (s.setXirqHeld v).runState = s.runState := rfl
@[simp] theorem State.setXirqHeld_pending (s : State) (v : Bool) : (s.setXirqHeld v).pending = s.pending := rfl
@[simp] theorem State.setXirqHeld_irqInhibit (s : State) (v : Bool) : (s.setXirqHeld v).irqInhibit = s.irqInhibit := rfl
@[simp] theorem State.setXirqHeld_xirqHeld (s : State) (v : Bool) : (s.setXirqHeld v).xirqHeld = v := rfl
@[simp] theorem State.setXirqHeld_resets (s : State) (v : Bool) : (s.setXirqHeld v).resets = s.resets := rfl
@[simp] theorem State.setXirqHeld_mem (s : State) (v : Bool) : (s.setXirqHeld v).mem = s.mem := rfl
@[simp] theorem State.setXirqHeld_memMap (s : State) (v : Bool) : (s.setXirqHeld v).memMap = s.memMap := rfl
@[simp] theorem State.setXirqHeld_irqLines (s : State) (v : Bool) : (s.setXirqHeld v).irqLines = s.irqLines := rfl
@[simp] theorem State.setXirqHeld_testMode (s : State) (v : Bool) : (s.setXirqHeld v).testMode = s.testMode := rfl
@[simp] theorem State.setXirqHeld_device (s : State) (v : Bool) : (s.setXirqHeld v).device = s.device := rfl
@[simp] theorem State.setXirqHeld_draws (s : State) (v : Bool) : (s.setXirqHeld v).draws = s.draws := rfl

@[simp] theorem State.setResets_a (s : State) (v : ResetRequests) : (s.setResets v).a = s.a := rfl
@[simp] theorem State.setResets_b (s : State) (v : ResetRequests) : (s.setResets v).b = s.b := rfl
@[simp] theorem State.setResets_ix (s : State) (v : ResetRequests) : (s.setResets v).ix = s.ix := rfl
@[simp] theorem State.setResets_iy (s : State) (v : ResetRequests) : (s.setResets v).iy = s.iy := rfl
@[simp] theorem State.setResets_sp (s : State) (v : ResetRequests) : (s.setResets v).sp = s.sp := rfl
@[simp] theorem State.setResets_pc (s : State) (v : ResetRequests) : (s.setResets v).pc = s.pc := rfl
@[simp] theorem State.setResets_ccr (s : State) (v : ResetRequests) : (s.setResets v).ccr = s.ccr := rfl
@[simp] theorem State.setResets_runState (s : State) (v : ResetRequests) : (s.setResets v).runState = s.runState := rfl
@[simp] theorem State.setResets_pending (s : State) (v : ResetRequests) : (s.setResets v).pending = s.pending := rfl
@[simp] theorem State.setResets_irqInhibit (s : State) (v : ResetRequests) : (s.setResets v).irqInhibit = s.irqInhibit := rfl
@[simp] theorem State.setResets_xirqHeld (s : State) (v : ResetRequests) : (s.setResets v).xirqHeld = s.xirqHeld := rfl
@[simp] theorem State.setResets_resets (s : State) (v : ResetRequests) : (s.setResets v).resets = v := rfl
@[simp] theorem State.setResets_mem (s : State) (v : ResetRequests) : (s.setResets v).mem = s.mem := rfl
@[simp] theorem State.setResets_memMap (s : State) (v : ResetRequests) : (s.setResets v).memMap = s.memMap := rfl
@[simp] theorem State.setResets_irqLines (s : State) (v : ResetRequests) : (s.setResets v).irqLines = s.irqLines := rfl
@[simp] theorem State.setResets_testMode (s : State) (v : ResetRequests) : (s.setResets v).testMode = s.testMode := rfl
@[simp] theorem State.setResets_device (s : State) (v : ResetRequests) : (s.setResets v).device = s.device := rfl
@[simp] theorem State.setResets_draws (s : State) (v : ResetRequests) : (s.setResets v).draws = s.draws := rfl

@[simp] theorem State.setMem_a (s : State) (v : Memory) : (s.setMem v).a = s.a := rfl
@[simp] theorem State.setMem_b (s : State) (v : Memory) : (s.setMem v).b = s.b := rfl
@[simp] theorem State.setMem_ix (s : State) (v : Memory) : (s.setMem v).ix = s.ix := rfl
@[simp] theorem State.setMem_iy (s : State) (v : Memory) : (s.setMem v).iy = s.iy := rfl
@[simp] theorem State.setMem_sp (s : State) (v : Memory) : (s.setMem v).sp = s.sp := rfl
@[simp] theorem State.setMem_pc (s : State) (v : Memory) : (s.setMem v).pc = s.pc := rfl
@[simp] theorem State.setMem_ccr (s : State) (v : Memory) : (s.setMem v).ccr = s.ccr := rfl
@[simp] theorem State.setMem_runState (s : State) (v : Memory) : (s.setMem v).runState = s.runState := rfl
@[simp] theorem State.setMem_pending (s : State) (v : Memory) : (s.setMem v).pending = s.pending := rfl
@[simp] theorem State.setMem_irqInhibit (s : State) (v : Memory) : (s.setMem v).irqInhibit = s.irqInhibit := rfl
@[simp] theorem State.setMem_xirqHeld (s : State) (v : Memory) : (s.setMem v).xirqHeld = s.xirqHeld := rfl
@[simp] theorem State.setMem_resets (s : State) (v : Memory) : (s.setMem v).resets = s.resets := rfl
@[simp] theorem State.setMem_mem (s : State) (v : Memory) : (s.setMem v).mem = v := rfl
@[simp] theorem State.setMem_memMap (s : State) (v : Memory) : (s.setMem v).memMap = s.memMap := rfl
@[simp] theorem State.setMem_irqLines (s : State) (v : Memory) : (s.setMem v).irqLines = s.irqLines := rfl
@[simp] theorem State.setMem_testMode (s : State) (v : Memory) : (s.setMem v).testMode = s.testMode := rfl
@[simp] theorem State.setMem_device (s : State) (v : Memory) : (s.setMem v).device = s.device := rfl
@[simp] theorem State.setMem_draws (s : State) (v : Memory) : (s.setMem v).draws = s.draws := rfl

@[simp] theorem State.setDevice_a (s : State) (v : Nat) : (s.setDevice v).a = s.a := rfl
@[simp] theorem State.setDevice_b (s : State) (v : Nat) : (s.setDevice v).b = s.b := rfl
@[simp] theorem State.setDevice_ix (s : State) (v : Nat) : (s.setDevice v).ix = s.ix := rfl
@[simp] theorem State.setDevice_iy (s : State) (v : Nat) : (s.setDevice v).iy = s.iy := rfl
@[simp] theorem State.setDevice_sp (s : State) (v : Nat) : (s.setDevice v).sp = s.sp := rfl
@[simp] theorem State.setDevice_pc (s : State) (v : Nat) : (s.setDevice v).pc = s.pc := rfl
@[simp] theorem State.setDevice_ccr (s : State) (v : Nat) : (s.setDevice v).ccr = s.ccr := rfl
@[simp] theorem State.setDevice_runState (s : State) (v : Nat) : (s.setDevice v).runState = s.runState := rfl
@[simp] theorem State.setDevice_pending (s : State) (v : Nat) : (s.setDevice v).pending = s.pending := rfl
@[simp] theorem State.setDevice_irqInhibit (s : State) (v : Nat) : (s.setDevice v).irqInhibit = s.irqInhibit := rfl
@[simp] theorem State.setDevice_xirqHeld (s : State) (v : Nat) : (s.setDevice v).xirqHeld = s.xirqHeld := rfl
@[simp] theorem State.setDevice_resets (s : State) (v : Nat) : (s.setDevice v).resets = s.resets := rfl
@[simp] theorem State.setDevice_mem (s : State) (v : Nat) : (s.setDevice v).mem = s.mem := rfl
@[simp] theorem State.setDevice_memMap (s : State) (v : Nat) : (s.setDevice v).memMap = s.memMap := rfl
@[simp] theorem State.setDevice_irqLines (s : State) (v : Nat) : (s.setDevice v).irqLines = s.irqLines := rfl
@[simp] theorem State.setDevice_testMode (s : State) (v : Nat) : (s.setDevice v).testMode = s.testMode := rfl
@[simp] theorem State.setDevice_device (s : State) (v : Nat) : (s.setDevice v).device = v := rfl
@[simp] theorem State.setDevice_draws (s : State) (v : Nat) : (s.setDevice v).draws = s.draws := rfl

@[simp] theorem State.setDraws_a (s : State) (v : Nat) : (s.setDraws v).a = s.a := rfl
@[simp] theorem State.setDraws_b (s : State) (v : Nat) : (s.setDraws v).b = s.b := rfl
@[simp] theorem State.setDraws_ix (s : State) (v : Nat) : (s.setDraws v).ix = s.ix := rfl
@[simp] theorem State.setDraws_iy (s : State) (v : Nat) : (s.setDraws v).iy = s.iy := rfl
@[simp] theorem State.setDraws_sp (s : State) (v : Nat) : (s.setDraws v).sp = s.sp := rfl
@[simp] theorem State.setDraws_pc (s : State) (v : Nat) : (s.setDraws v).pc = s.pc := rfl
@[simp] theorem State.setDraws_ccr (s : State) (v : Nat) : (s.setDraws v).ccr = s.ccr := rfl
@[simp] theorem State.setDraws_runState (s : State) (v : Nat) : (s.setDraws v).runState = s.runState := rfl
@[simp] theorem State.setDraws_pending (s : State) (v : Nat) : (s.setDraws v).pending = s.pending := rfl
@[simp] theorem State.setDraws_irqInhibit (s : State) (v : Nat) : (s.setDraws v).irqInhibit = s.irqInhibit := rfl
@[simp] theorem State.setDraws_xirqHeld (s : State) (v : Nat) : (s.setDraws v).xirqHeld = s.xirqHeld := rfl
@[simp] theorem State.setDraws_resets (s : State) (v : Nat) : (s.setDraws v).resets = s.resets := rfl
@[simp] theorem State.setDraws_mem (s : State) (v : Nat) : (s.setDraws v).mem = s.mem := rfl
@[simp] theorem State.setDraws_memMap (s : State) (v : Nat) : (s.setDraws v).memMap = s.memMap := rfl
@[simp] theorem State.setDraws_irqLines (s : State) (v : Nat) : (s.setDraws v).irqLines = s.irqLines := rfl
@[simp] theorem State.setDraws_testMode (s : State) (v : Nat) : (s.setDraws v).testMode = s.testMode := rfl
@[simp] theorem State.setDraws_device (s : State) (v : Nat) : (s.setDraws v).device = s.device := rfl
@[simp] theorem State.setDraws_draws (s : State) (v : Nat) : (s.setDraws v).draws = v := rfl

@[simp] theorem State.setD_a (s : State) (v : Word) : (s.setD v).a = hi v := rfl
@[simp] theorem State.setD_b (s : State) (v : Word) : (s.setD v).b = lo v := rfl
@[simp] theorem State.setD_ix (s : State) (v : Word) : (s.setD v).ix = s.ix := rfl
@[simp] theorem State.setD_iy (s : State) (v : Word) : (s.setD v).iy = s.iy := rfl
@[simp] theorem State.setD_sp (s : State) (v : Word) : (s.setD v).sp = s.sp := rfl
@[simp] theorem State.setD_pc (s : State) (v : Word) : (s.setD v).pc = s.pc := rfl
@[simp] theorem State.setD_ccr (s : State) (v : Word) : (s.setD v).ccr = s.ccr := rfl
@[simp] theorem State.setD_runState (s : State) (v : Word) : (s.setD v).runState = s.runState := rfl
@[simp] theorem State.setD_pending (s : State) (v : Word) : (s.setD v).pending = s.pending := rfl
@[simp] theorem State.setD_irqInhibit (s : State) (v : Word) : (s.setD v).irqInhibit = s.irqInhibit := rfl
@[simp] theorem State.setD_xirqHeld (s : State) (v : Word) : (s.setD v).xirqHeld = s.xirqHeld := rfl
@[simp] theorem State.setD_resets (s : State) (v : Word) : (s.setD v).resets = s.resets := rfl
@[simp] theorem State.setD_mem (s : State) (v : Word) : (s.setD v).mem = s.mem := rfl
@[simp] theorem State.setD_memMap (s : State) (v : Word) : (s.setD v).memMap = s.memMap := rfl
@[simp] theorem State.setD_irqLines (s : State) (v : Word) : (s.setD v).irqLines = s.irqLines := rfl
@[simp] theorem State.setD_testMode (s : State) (v : Word) : (s.setD v).testMode = s.testMode := rfl
@[simp] theorem State.setD_device (s : State) (v : Word) : (s.setD v).device = s.device := rfl
@[simp] theorem State.setD_draws (s : State) (v : Word) : (s.setD v).draws = s.draws := rfl

end Sys2Proof.Machine
end

