-- ==== Sys2Proof/Laws/Ops.lean ====
section
/-! SUPPORT. What each shared operation can do: one lemma that says it whole, and from it one lemma per field that
it leaves alone. -/

namespace Sys2Proof.Machine

/-- The kind of an address is the memory map's, which nothing writes. -/
theorem State.kind_congr {s t : State} (h : t.memMap = s.memMap) (a : Word) : t.kind a = s.kind a := by
  unfold State.kind; rw [h]

theorem NoIO.nil (s : State) : NoIO s [] := fun _ h => nomatch h

theorem NoIO.cons {s : State} {a : Word} {as : List Word} (h : s.kind a ≠ .io) (n : NoIO s as) : NoIO s (a :: as) :=
  List.forall_mem_cons.2 ⟨h, n⟩

theorem NoIO.append {s : State} {as bs : List Word} (h : NoIO s (as ++ bs)) : NoIO s as ∧ NoIO s bs :=
  List.forall_mem_append.1 h

theorem NoIO.congr {s t : State} {as : List Word} (h : NoIO s as) (m : t.memMap = s.memMap) : NoIO t as :=
  fun a ha => by rw [State.kind_congr m]; exact h a ha

/-- `s` with the registers, flags, run state and inhibit of `r`: everything an access leaves alone and does not look
at, but the parameters. -/
def State.withRegisters (s r : State) : State :=
  { s with
    a := r.a, b := r.b, ix := r.ix, iy := r.iy, sp := r.sp, pc := r.pc, ccr := r.ccr, runState := r.runState
    irqInhibit := r.irqInhibit, xirqHeld := r.xirqHeld }

theorem OnlyAccess.refl (s : State) : OnlyAccess s s := ⟨rfl, fun _ _ => rfl, id⟩

theorem OnlyAccess.memMap {s t : State} (h : OnlyAccess s t) : t.memMap = s.memMap := by rw [h.fields]

theorem OnlyAccess.kind {s t : State} (h : OnlyAccess s t) (a : Word) : t.kind a = s.kind a :=
  State.kind_congr h.memMap a

theorem OnlyAccess.trans {s t u : State} (h : OnlyAccess s t) (k : OnlyAccess t u) : OnlyAccess s u where
  fields := by rw [k.fields, h.fields]
  fixed x hx := (k.fixed x (by rwa [h.kind])).trans (h.fixed x hx)
  canonical w := k.canonical (h.canonical w)

/-- The same registers put into both sides. -/
theorem OnlyAccess.withRegisters {s t : State} (h : OnlyAccess s t) (r : State) :
    OnlyAccess (s.withRegisters r) (t.withRegisters r) where
  fields := by unfold State.withRegisters; rw [h.fields]
  fixed := h.fixed
  canonical := h.canonical

theorem OnlyReads.refl (as : List Word) (s : State) : OnlyReads as s s := ⟨.refl s, fun _ => rfl⟩

theorem OnlyReads.trans {as bs : List Word} {s t u : State} (h : OnlyReads as s t) (k : OnlyReads bs t u) :
    OnlyReads (as ++ bs) s u where
  access := h.access.trans k.access
  plain n := by
    rw [k.plain (n.append.2.congr h.access.memMap), h.plain n.append.1]

/-- The same registers put into both sides. -/
theorem OnlyReads.withRegisters {as : List Word} {s t : State} (h : OnlyReads as s t) (r : State) :
    OnlyReads as (s.withRegisters r) (t.withRegisters r) where
  access := h.access.withRegisters r
  plain n := by unfold State.withRegisters; rw [h.plain n]

/-- `t` differs from `s` in registers and in what accesses may change. -/
structure Accessed (s t : State) : Prop where
  frame : OnlyAccess (s.withRegisters t) t

/-- `t` differs from `s` in registers and in what reads of `as` may change. -/
structure ReadsUpTo (as : List Word) (s t : State) : Prop where
  frame : OnlyReads as (s.withRegisters t) t

/-- `s'` may be `s` with an update of the registers. -/
theorem OnlyAccess.accessed {s s' t : State} (h : OnlyAccess s' t) (e : s' = s.withRegisters s' := by rfl) :
    Accessed s t := by
  have k := h.withRegisters t
  rw [e] at k
  exact ⟨k⟩

/-- `s'` may be `s` with an update of the registers. -/
theorem OnlyReads.upTo {as : List Word} {s s' t : State} (h : OnlyReads as s' t)
    (e : s' = s.withRegisters s' := by rfl) : ReadsUpTo as s t := by
  have k := h.withRegisters t
  rw [e] at k
  exact ⟨k⟩

theorem Accessed.trans {s t u : State} (h : Accessed s t) (k : Accessed t u) : Accessed s u :=
  ⟨OnlyAccess.trans (h.frame.withRegisters u) k.frame⟩

theorem ReadsUpTo.trans {as bs : List Word} {s t u : State} (h : ReadsUpTo as s t) (k : ReadsUpTo bs t u) :
    ReadsUpTo (as ++ bs) s u :=
  ⟨OnlyReads.trans (h.frame.withRegisters u) k.frame⟩

theorem ReadsUpTo.accessed {as : List Word} {s t : State} (h : ReadsUpTo as s t) : Accessed s t := ⟨h.frame.access⟩

theorem Accessed.refl (s : State) : Accessed s s := ⟨.refl s⟩

theorem ReadsUpTo.refl (as : List Word) (s : State) : ReadsUpTo as s s := ⟨.refl as s⟩

/-- An update of the registers alone may follow. -/
theorem Accessed.update {s t u : State} (h : Accessed s t) (e : u = t.withRegisters u) : Accessed s u := by
  rw [e]
  exact ⟨h.frame.withRegisters u⟩

/-- An update of the registers alone may follow. -/
theorem ReadsUpTo.update {as : List Word} {s t u : State} (h : ReadsUpTo as s t) (e : u = t.withRegisters u) :
    ReadsUpTo as s u := by
  rw [e]
  exact ⟨h.frame.withRegisters u⟩

theorem Accessed.setA {s t : State} (h : Accessed s t) (v : Byte) : Accessed s (t.setA v) := h.update rfl

theorem Accessed.setB {s t : State} (h : Accessed s t) (v : Byte) : Accessed s (t.setB v) := h.update rfl

theorem Accessed.setIX {s t : State} (h : Accessed s t) (v : Word) : Accessed s (t.setIX v) := h.update rfl

theorem Accessed.setIY {s t : State} (h : Accessed s t) (v : Word) : Accessed s (t.setIY v) := h.update rfl

theorem Accessed.setSP {s t : State} (h : Accessed s t) (v : Word) : Accessed s (t.setSP v) := h.update rfl

theorem Accessed.setPC {s t : State} (h : Accessed s t) (v : Word) : Accessed s (t.setPC v) := h.update rfl

theorem Accessed.setD {s t : State} (h : Accessed s t) (v : Word) : Accessed s (t.setD v) := h.update rfl

theorem Accessed.setCcr {s t : State} (h : Accessed s t) (v : Ccr) : Accessed s (t.setCcr v) := h.update rfl

theorem Accessed.setRunState {s t : State} (h : Accessed s t) (v : RunState) : Accessed s (t.setRunState v) := h.update rfl

theorem Accessed.setIrqInhibit {s t : State} (h : Accessed s t) (v : Bool) : Accessed s (t.setIrqInhibit v) := h.update rfl

theorem Accessed.setXirqHeld {s t : State} (h : Accessed s t) (v : Bool) : Accessed s (t.setXirqHeld v) := h.update rfl

theorem Accessed.setDraws {s t : State} (h : Accessed s t) (n : Nat) : Accessed s (t.setDraws n) :=
  h.trans ⟨rfl, fun _ _ => rfl, id⟩

/-- From the registers of `t`: the frame of the operation that led to it. -/
theorem Accessed.onlyAccess {s s' t : State} (h : Accessed s t) (e : s' = s.withRegisters t) : OnlyAccess s' t :=
  e ▸ h.frame

/-- From the registers of `t`: the frame of the operation that led to it. -/
theorem ReadsUpTo.onlyReads {as : List Word} {s s' t : State} (h : ReadsUpTo as s t) (e : s' = s.withRegisters t) :
    OnlyReads as s' t :=
  e ▸ h.frame

/-- Bytes that are not RAM stay. -/
theorem Accessed.fixed {s t : State} (h : Accessed s t) {x : Word} (hx : s.kind x ≠ .ram) :
    t.mem.byteAt x = s.mem.byteAt x :=
  h.frame.fixed x hx

/-- The canonical form stays. -/
theorem Accessed.wf {s t : State} (h : Accessed s t) (w : s.mem.wf = true) : t.mem.wf = true :=
  h.frame.canonical w

/-- The parameters stay. -/
theorem Accessed.parameters {s t : State} (h : Accessed s t) :
    t.memMap = s.memMap ∧ t.irqLines = s.irqLines ∧ t.testMode = s.testMode := by
  have e := h.frame.fields
  exact ⟨(congrArg State.memMap e).trans rfl, (congrArg State.irqLines e).trans rfl,
    (congrArg State.testMode e).trans rfl⟩

/-- A device's stores change memory alone. -/
theorem deviceStores_fields (l : List (Word × Byte)) (s : State) :
    deviceStores l s = { s with mem := (deviceStores l s).mem } := by
  induction l generalizing s with
  | nil => rfl
  | cons e rest ih => rw [deviceStores, ih]; split <;> rfl

/-- A device's stores reach RAM alone and keep the canonical form. -/
theorem deviceStores_onlyAccess (l : List (Word × Byte)) (s : State) : OnlyAccess s (deviceStores l s) where
  fields := by rw [deviceStores_fields]
  fixed x hx := by
    induction l generalizing s with
    | nil => rfl
    | cons e rest ih =>
      obtain ⟨a, v⟩ := e
      rw [deviceStores]
      split
      · rename_i ha
        rw [ih (s.setMem (s.mem.write a.toNat v)) hx]
        exact Memory.byteAt_write_ne _ (fun e : x = a => hx (e ▸ ha)) v
      · exact ih s hx
  canonical h := by
    induction l generalizing s with
    | nil => exact h
    | cons e rest ih =>
      rw [deviceStores]
      split
      · exact ih (s.setMem _) (Memory.wf_write h _ _)
      · exact ih s h

/-- What a device does at an access stays within what accesses may change. -/
theorem deviceStep_onlyAccess (e : DeviceEffect) (s : State) : OnlyAccess s (deviceStep e s) where
  fields := by unfold deviceStep; rw [deviceStores_fields]; rfl
  fixed := (deviceStores_onlyAccess e.stores s).fixed
  canonical := (deviceStores_onlyAccess e.stores s).canonical

/-- A read changes only what accesses may change. -/
theorem readByte_onlyAccess (a : Word) (s : State) : OnlyAccess s (readByte a s).2 := by
  unfold readByte
  cases s.kind a with
  | ram => exact .refl s
  | rom => exact .refl s
  | io => exact deviceStep_onlyAccess _ s
  | unmapped => exact ⟨rfl, fun _ _ => rfl, id⟩

/-- A read off the devices changes the count of free values alone. -/
theorem readByte_onlyReads (a : Word) (s : State) : OnlyReads [a] s (readByte a s).2 where
  access := readByte_onlyAccess a s
  plain n := by
    have := n a (List.mem_singleton.2 rfl)
    unfold readByte
    cases hk : s.kind a <;> first | rfl | contradiction

/-- On storage a read answers the byte there and changes nothing. -/
theorem readByte_storage {a : Word} {s : State} (h : Storage s a) : readByte a s = (s.mem.byteAt a, s) := by
  unfold readByte
  rcases h with h | h <;> simp only [h]

/-- A write off the devices changes memory alone. -/
theorem writeByte_plain {a : Word} {s : State} (h : s.kind a ≠ .io) (v : Byte) :
    writeByte a v s = { s with mem := (writeByte a v s).mem } := by
  unfold writeByte
  cases hk : s.kind a <;> first | rfl | contradiction

/-- A write changes only what accesses may change. -/
theorem writeByte_onlyAccess (a : Word) (v : Byte) (s : State) : OnlyAccess s (writeByte a v s) := by
  unfold writeByte
  cases hk : s.kind a with
  | ram =>
    exact ⟨rfl, fun x hx => Memory.byteAt_write_ne _ (fun e : x = a => hx (e ▸ hk)) v,
      fun h => Memory.wf_write h a v⟩
  | rom => exact .refl s
  | io => exact deviceStep_onlyAccess _ s
  | unmapped => exact .refl s

/-- A write off the devices stores its byte where there is RAM and changes no other byte. -/
theorem writeByte_byteAt {s : State} (h : s.mem.wf = true) {a : Word} (n : s.kind a ≠ .io) (v : Byte) (x : Word) :
    (writeByte a v s).mem.byteAt x = if x = a ∧ s.kind a = .ram then v else s.mem.byteAt x := by
  unfold writeByte
  cases hk : s.kind a <;> first | contradiction | simp [Memory.byteAt_write h]

/-- A write keeps memory in canonical form. -/
theorem writeByte_wf {s : State} (h : s.mem.wf = true) (a : Word) (v : Byte) : (writeByte a v s).mem.wf = true :=
  (writeByte_onlyAccess a v s).canonical h

/-- A read keeps memory in canonical form. -/
theorem readByte_wf {s : State} (h : s.mem.wf = true) (a : Word) : (readByte a s).2.mem.wf = true :=
  (readByte_onlyAccess a s).canonical h

/-- A device's stores do not depend on the registers, and leave them alone. -/
theorem deviceStores_withRegisters (l : List (Word × Byte)) (s r : State) :
    deviceStores l (s.withRegisters r) = (deviceStores l s).withRegisters r := by
  induction l generalizing s with
  | nil => rfl
  | cons e rest ih =>
    obtain ⟨x, v⟩ := e
    have hk : (s.withRegisters r).kind x = s.kind x := rfl
    rw [deviceStores, deviceStores, hk]
    split
    · exact ih (s.setMem _)
    · exact ih s

/-- What a device does does not depend on the registers, and it leaves them alone. -/
theorem deviceStep_withRegisters (e : DeviceEffect) (s r : State) :
    deviceStep e (s.withRegisters r) = (deviceStep e s).withRegisters r := by
  unfold deviceStep
  rw [deviceStores_withRegisters]
  rfl

/-- What a read answers does not depend on the registers, and it leaves them alone. -/
theorem readByte_withRegisters (x : Word) (s r : State) :
    readByte x (s.withRegisters r) = ((readByte x s).1, (readByte x s).2.withRegisters r) := by
  have hk : (s.withRegisters r).kind x = s.kind x := rfl
  unfold readByte
  rw [hk]
  cases s.kind x with
  | io => exact congrArg (Prod.mk _) (deviceStep_withRegisters _ s r)
  | _ => rfl

/-- What a write does does not depend on the registers, and it leaves them alone. -/
theorem writeByte_withRegisters (x : Word) (v : Byte) (s r : State) :
    writeByte x v (s.withRegisters r) = (writeByte x v s).withRegisters r := by
  have hk : (s.withRegisters r).kind x = s.kind x := rfl
  unfold writeByte
  rw [hk]
  cases s.kind x with
  | io => exact deviceStep_withRegisters _ s r
  | _ => rfl

@[simp] theorem readByte_a (x : Word) (s : State) : (readByte x s).2.a = s.a := by
  rw [(readByte_onlyAccess x s).fields]
@[simp] theorem readByte_b (x : Word) (s : State) : (readByte x s).2.b = s.b := by
  rw [(readByte_onlyAccess x s).fields]
@[simp] theorem readByte_ix (x : Word) (s : State) : (readByte x s).2.ix = s.ix := by
  rw [(readByte_onlyAccess x s).fields]
@[simp] theorem readByte_iy (x : Word) (s : State) : (readByte x s).2.iy = s.iy := by
  rw [(readByte_onlyAccess x s).fields]
@[simp] theorem readByte_sp (x : Word) (s : State) : (readByte x s).2.sp = s.sp := by
  rw [(readByte_onlyAccess x s).fields]
@[simp] theorem readByte_pc (x : Word) (s : State) : (readByte x s).2.pc = s.pc := by
  rw [(readByte_onlyAccess x s).fields]
@[simp] theorem readByte_ccr (x : Word) (s : State) : (readByte x s).2.ccr = s.ccr := by
  rw [(readByte_onlyAccess x s).fields]
@[simp] theorem readByte_runState (x : Word) (s : State) : (readByte x s).2.runState = s.runState := by
  rw [(readByte_onlyAccess x s).fields]
@[simp] theorem readByte_irqInhibit (x : Word) (s : State) : (readByte x s).2.irqInhibit = s.irqInhibit := by
  rw [(readByte_onlyAccess x s).fields]
@[simp] theorem readByte_xirqHeld (x : Word) (s : State) : (readByte x s).2.xirqHeld = s.xirqHeld := by
  rw [(readByte_onlyAccess x s).fields]
@[simp] theorem readByte_memMap (x : Word) (s : State) : (readByte x s).2.memMap = s.memMap := by
  rw [(readByte_onlyAccess x s).fields]
@[simp] theorem readByte_irqLines (x : Word) (s : State) : (readByte x s).2.irqLines = s.irqLines := by
  rw [(readByte_onlyAccess x s).fields]
@[simp] theorem readByte_testMode (x : Word) (s : State) : (readByte x s).2.testMode = s.testMode := by
  rw [(readByte_onlyAccess x s).fields]

@[simp] theorem writeByte_a (x : Word) (v : Byte) (s : State) : (writeByte x v s).a = s.a := by
  rw [(writeByte_onlyAccess x v s).fields]
@[simp] theorem writeByte_b (x : Word) (v : Byte) (s : State) : (writeByte x v s).b = s.b := by
  rw [(writeByte_onlyAccess x v s).fields]
@[simp] theorem writeByte_ix (x : Word) (v : Byte) (s : State) : (writeByte x v s).ix = s.ix := by
  rw [(writeByte_onlyAccess x v s).fields]
@[simp] theorem writeByte_iy (x : Word) (v : Byte) (s : State) : (writeByte x v s).iy = s.iy := by
  rw [(writeByte_onlyAccess x v s).fields]
@[simp] theorem writeByte_sp (x : Word) (v : Byte) (s : State) : (writeByte x v s).sp = s.sp := by
  rw [(writeByte_onlyAccess x v s).fields]
@[simp] theorem writeByte_pc (x : Word) (v : Byte) (s : State) : (writeByte x v s).pc = s.pc := by
  rw [(writeByte_onlyAccess x v s).fields]
@[simp] theorem writeByte_ccr (x : Word) (v : Byte) (s : State) : (writeByte x v s).ccr = s.ccr := by
  rw [(writeByte_onlyAccess x v s).fields]
@[simp] theorem writeByte_runState (x : Word) (v : Byte) (s : State) : (writeByte x v s).runState = s.runState := by
  rw [(writeByte_onlyAccess x v s).fields]
@[simp] theorem writeByte_irqInhibit (x : Word) (v : Byte) (s : State) : (writeByte x v s).irqInhibit = s.irqInhibit := by
  rw [(writeByte_onlyAccess x v s).fields]
@[simp] theorem writeByte_xirqHeld (x : Word) (v : Byte) (s : State) : (writeByte x v s).xirqHeld = s.xirqHeld := by
  rw [(writeByte_onlyAccess x v s).fields]
@[simp] theorem writeByte_memMap (x : Word) (v : Byte) (s : State) : (writeByte x v s).memMap = s.memMap := by
  rw [(writeByte_onlyAccess x v s).fields]
@[simp] theorem writeByte_irqLines (x : Word) (v : Byte) (s : State) : (writeByte x v s).irqLines = s.irqLines := by
  rw [(writeByte_onlyAccess x v s).fields]
@[simp] theorem writeByte_testMode (x : Word) (v : Byte) (s : State) : (writeByte x v s).testMode = s.testMode := by
  rw [(writeByte_onlyAccess x v s).fields]

/-- A read sees past a change of SP. -/
theorem readByte_setSP (x v : Word) (s : State) :
    readByte x { s with sp := v } = ((readByte x s).1, { (readByte x s).2 with sp := v }) :=
  (readByte_withRegisters x s { s with sp := v }).trans
    (Prod.ext rfl (by apply State.ext <;> simp [State.withRegisters]))

/-- A write commutes with a change of SP. -/
theorem writeByte_setSP (x : Word) (v : Byte) (s : State) (w : Word) :
    writeByte x v { s with sp := w } = { writeByte x v s with sp := w } :=
  (writeByte_withRegisters x v s { s with sp := w }).trans (by apply State.ext <;> simp [State.withRegisters])

/-- A write commutes with a change of PC. -/
theorem writeByte_setPC (x : Word) (v : Byte) (s : State) (w : Word) :
    writeByte x v { s with pc := w } = { writeByte x v s with pc := w } :=
  (writeByte_withRegisters x v s { s with pc := w }).trans (by apply State.ext <;> simp [State.withRegisters])

/-- A write commutes with a change of CCR. -/
theorem writeByte_setCcr (x : Word) (v : Byte) (s : State) (f : Ccr) :
    writeByte x v { s with ccr := f } = { writeByte x v s with ccr := f } :=
  (writeByte_withRegisters x v s { s with ccr := f }).trans (by apply State.ext <;> simp [State.withRegisters])

/-- A write commutes with a change of the run state. -/
theorem writeByte_setRunState (x : Word) (v : Byte) (s : State) (r : RunState) :
    writeByte x v { s with runState := r } = { writeByte x v s with runState := r } :=
  (writeByte_withRegisters x v s { s with runState := r }).trans (by apply State.ext <;> simp [State.withRegisters])

@[simp] theorem readWord_a (x : Word) (s : State) : (readWord x s).2.a = s.a := by
  simp [readWord]
@[simp] theorem readWord_b (x : Word) (s : State) : (readWord x s).2.b = s.b := by
  simp [readWord]
@[simp] theorem readWord_ix (x : Word) (s : State) : (readWord x s).2.ix = s.ix := by
  simp [readWord]
@[simp] theorem readWord_iy (x : Word) (s : State) : (readWord x s).2.iy = s.iy := by
  simp [readWord]
@[simp] theorem readWord_sp (x : Word) (s : State) : (readWord x s).2.sp = s.sp := by
  simp [readWord]
@[simp] theorem readWord_pc (x : Word) (s : State) : (readWord x s).2.pc = s.pc := by
  simp [readWord]
@[simp] theorem readWord_ccr (x : Word) (s : State) : (readWord x s).2.ccr = s.ccr := by
  simp [readWord]
@[simp] theorem readWord_runState (x : Word) (s : State) : (readWord x s).2.runState = s.runState := by
  simp [readWord]
@[simp] theorem readWord_irqInhibit (x : Word) (s : State) : (readWord x s).2.irqInhibit = s.irqInhibit := by
  simp [readWord]
@[simp] theorem readWord_xirqHeld (x : Word) (s : State) : (readWord x s).2.xirqHeld = s.xirqHeld := by
  simp [readWord]
@[simp] theorem readWord_memMap (x : Word) (s : State) : (readWord x s).2.memMap = s.memMap := by
  simp [readWord]
@[simp] theorem readWord_irqLines (x : Word) (s : State) : (readWord x s).2.irqLines = s.irqLines := by
  simp [readWord]
@[simp] theorem readWord_testMode (x : Word) (s : State) : (readWord x s).2.testMode = s.testMode := by
  simp [readWord]

@[simp] theorem writeWord_a (x v : Word) (s : State) : (writeWord x v s).a = s.a := by
  simp [writeWord]
@[simp] theorem writeWord_b (x v : Word) (s : State) : (writeWord x v s).b = s.b := by
  simp [writeWord]
@[simp] theorem writeWord_ix (x v : Word) (s : State) : (writeWord x v s).ix = s.ix := by
  simp [writeWord]
@[simp] theorem writeWord_iy (x v : Word) (s : State) : (writeWord x v s).iy = s.iy := by
  simp [writeWord]
@[simp] theorem writeWord_sp (x v : Word) (s : State) : (writeWord x v s).sp = s.sp := by
  simp [writeWord]
@[simp] theorem writeWord_pc (x v : Word) (s : State) : (writeWord x v s).pc = s.pc := by
  simp [writeWord]
@[simp] theorem writeWord_ccr (x v : Word) (s : State) : (writeWord x v s).ccr = s.ccr := by
  simp [writeWord]
@[simp] theorem writeWord_runState (x v : Word) (s : State) : (writeWord x v s).runState = s.runState := by
  simp [writeWord]
@[simp] theorem writeWord_irqInhibit (x v : Word) (s : State) : (writeWord x v s).irqInhibit = s.irqInhibit := by
  simp [writeWord]
@[simp] theorem writeWord_xirqHeld (x v : Word) (s : State) : (writeWord x v s).xirqHeld = s.xirqHeld := by
  simp [writeWord]
@[simp] theorem writeWord_memMap (x v : Word) (s : State) : (writeWord x v s).memMap = s.memMap := by
  simp [writeWord]
@[simp] theorem writeWord_irqLines (x v : Word) (s : State) : (writeWord x v s).irqLines = s.irqLines := by
  simp [writeWord]
@[simp] theorem writeWord_testMode (x v : Word) (s : State) : (writeWord x v s).testMode = s.testMode := by
  simp [writeWord]

@[simp] theorem push8_a (v : Byte) (s : State) : (push8 v s).a = s.a := by
  simp [push8]
@[simp] theorem push8_b (v : Byte) (s : State) : (push8 v s).b = s.b := by
  simp [push8]
@[simp] theorem push8_ix (v : Byte) (s : State) : (push8 v s).ix = s.ix := by
  simp [push8]
@[simp] theorem push8_iy (v : Byte) (s : State) : (push8 v s).iy = s.iy := by
  simp [push8]
@[simp] theorem push8_pc (v : Byte) (s : State) : (push8 v s).pc = s.pc := by
  simp [push8]
@[simp] theorem push8_ccr (v : Byte) (s : State) : (push8 v s).ccr = s.ccr := by
  simp [push8]
@[simp] theorem push8_runState (v : Byte) (s : State) : (push8 v s).runState = s.runState := by
  simp [push8]
@[simp] theorem push8_irqInhibit (v : Byte) (s : State) : (push8 v s).irqInhibit = s.irqInhibit := by
  simp [push8]
@[simp] theorem push8_xirqHeld (v : Byte) (s : State) : (push8 v s).xirqHeld = s.xirqHeld := by
  simp [push8]
@[simp] theorem push8_memMap (v : Byte) (s : State) : (push8 v s).memMap = s.memMap := by
  simp [push8]
@[simp] theorem push8_irqLines (v : Byte) (s : State) : (push8 v s).irqLines = s.irqLines := by
  simp [push8]
@[simp] theorem push8_testMode (v : Byte) (s : State) : (push8 v s).testMode = s.testMode := by
  simp [push8]

@[simp] theorem push8_sp (v : Byte) (s : State) : (push8 v s).sp = s.sp - 1#16 := by
  simp [push8]

@[simp] theorem push16_a (v : Word) (s : State) : (push16 v s).a = s.a := by
  simp [push16]
@[simp] theorem push16_b (v : Word) (s : State) : (push16 v s).b = s.b := by
  simp [push16]
@[simp] theorem push16_ix (v : Word) (s : State) : (push16 v s).ix = s.ix := by
  simp [push16]
@[simp] theorem push16_iy (v : Word) (s : State) : (push16 v s).iy = s.iy := by
  simp [push16]
@[simp] theorem push16_pc (v : Word) (s : State) : (push16 v s).pc = s.pc := by
  simp [push16]
@[simp] theorem push16_ccr (v : Word) (s : State) : (push16 v s).ccr = s.ccr := by
  simp [push16]
@[simp] theorem push16_runState (v : Word) (s : State) : (push16 v s).runState = s.runState := by
  simp [push16]
@[simp] theorem push16_irqInhibit (v : Word) (s : State) : (push16 v s).irqInhibit = s.irqInhibit := by
  simp [push16]
@[simp] theorem push16_xirqHeld (v : Word) (s : State) : (push16 v s).xirqHeld = s.xirqHeld := by
  simp [push16]
@[simp] theorem push16_memMap (v : Word) (s : State) : (push16 v s).memMap = s.memMap := by
  simp [push16]
@[simp] theorem push16_irqLines (v : Word) (s : State) : (push16 v s).irqLines = s.irqLines := by
  simp [push16]
@[simp] theorem push16_testMode (v : Word) (s : State) : (push16 v s).testMode = s.testMode := by
  simp [push16]

@[simp] theorem push16_sp (v : Word) (s : State) : (push16 v s).sp = s.sp - 2#16 := by
  simp [push16, BitVec.sub_sub]

@[simp] theorem pull8_a (s : State) : (pull8 s).2.a = s.a := by
  simp [pull8]
@[simp] theorem pull8_b (s : State) : (pull8 s).2.b = s.b := by
  simp [pull8]
@[simp] theorem pull8_ix (s : State) : (pull8 s).2.ix = s.ix := by
  simp [pull8]
@[simp] theorem pull8_iy (s : State) : (pull8 s).2.iy = s.iy := by
  simp [pull8]
@[simp] theorem pull8_pc (s : State) : (pull8 s).2.pc = s.pc := by
  simp [pull8]
@[simp] theorem pull8_ccr (s : State) : (pull8 s).2.ccr = s.ccr := by
  simp [pull8]
@[simp] theorem pull8_runState (s : State) : (pull8 s).2.runState = s.runState := by
  simp [pull8]
@[simp] theorem pull8_irqInhibit (s : State) : (pull8 s).2.irqInhibit = s.irqInhibit := by
  simp [pull8]
@[simp] theorem pull8_xirqHeld (s : State) : (pull8 s).2.xirqHeld = s.xirqHeld := by
  simp [pull8]
@[simp] theorem pull8_memMap (s : State) : (pull8 s).2.memMap = s.memMap := by
  simp [pull8]
@[simp] theorem pull8_irqLines (s : State) : (pull8 s).2.irqLines = s.irqLines := by
  simp [pull8]
@[simp] theorem pull8_testMode (s : State) : (pull8 s).2.testMode = s.testMode := by
  simp [pull8]

@[simp] theorem pull8_sp (s : State) : (pull8 s).2.sp = s.sp + 1#16 := by
  simp [pull8]

@[simp] theorem pull16_a (s : State) : (pull16 s).2.a = s.a := by
  simp [pull16]
@[simp] theorem pull16_b (s : State) : (pull16 s).2.b = s.b := by
  simp [pull16]
@[simp] theorem pull16_ix (s : State) : (pull16 s).2.ix = s.ix := by
  simp [pull16]
@[simp] theorem pull16_iy (s : State) : (pull16 s).2.iy = s.iy := by
  simp [pull16]
@[simp] theorem pull16_pc (s : State) : (pull16 s).2.pc = s.pc := by
  simp [pull16]
@[simp] theorem pull16_ccr (s : State) : (pull16 s).2.ccr = s.ccr := by
  simp [pull16]
@[simp] theorem pull16_runState (s : State) : (pull16 s).2.runState = s.runState := by
  simp [pull16]
@[simp] theorem pull16_irqInhibit (s : State) : (pull16 s).2.irqInhibit = s.irqInhibit := by
  simp [pull16]
@[simp] theorem pull16_xirqHeld (s : State) : (pull16 s).2.xirqHeld = s.xirqHeld := by
  simp [pull16]
@[simp] theorem pull16_memMap (s : State) : (pull16 s).2.memMap = s.memMap := by
  simp [pull16]
@[simp] theorem pull16_irqLines (s : State) : (pull16 s).2.irqLines = s.irqLines := by
  simp [pull16]
@[simp] theorem pull16_testMode (s : State) : (pull16 s).2.testMode = s.testMode := by
  simp [pull16]

@[simp] theorem pull16_sp (s : State) : (pull16 s).2.sp = s.sp + 2#16 := by
  simp [pull16, BitVec.add_assoc]

@[simp] theorem pushFrame_a (ret : Word) (s : State) : (pushFrame ret s).a = s.a := by
  simp [pushFrame]
@[simp] theorem pushFrame_b (ret : Word) (s : State) : (pushFrame ret s).b = s.b := by
  simp [pushFrame]
@[simp] theorem pushFrame_ix (ret : Word) (s : State) : (pushFrame ret s).ix = s.ix := by
  simp [pushFrame]
@[simp] theorem pushFrame_iy (ret : Word) (s : State) : (pushFrame ret s).iy = s.iy := by
  simp [pushFrame]
@[simp] theorem pushFrame_pc (ret : Word) (s : State) : (pushFrame ret s).pc = s.pc := by
  simp [pushFrame]
@[simp] theorem pushFrame_ccr (ret : Word) (s : State) : (pushFrame ret s).ccr = s.ccr := by
  simp [pushFrame]
@[simp] theorem pushFrame_runState (ret : Word) (s : State) : (pushFrame ret s).runState = s.runState := by
  simp [pushFrame]
@[simp] theorem pushFrame_irqInhibit (ret : Word) (s : State) : (pushFrame ret s).irqInhibit = s.irqInhibit := by
  simp [pushFrame]
@[simp] theorem pushFrame_xirqHeld (ret : Word) (s : State) : (pushFrame ret s).xirqHeld = s.xirqHeld := by
  simp [pushFrame]
@[simp] theorem pushFrame_memMap (ret : Word) (s : State) : (pushFrame ret s).memMap = s.memMap := by
  simp [pushFrame]
@[simp] theorem pushFrame_irqLines (ret : Word) (s : State) : (pushFrame ret s).irqLines = s.irqLines := by
  simp [pushFrame]
@[simp] theorem pushFrame_testMode (ret : Word) (s : State) : (pushFrame ret s).testMode = s.testMode := by
  simp [pushFrame]

@[simp] theorem pushFrame_sp (ret : Word) (s : State) : (pushFrame ret s).sp = s.sp - 9#16 := by
  simp [pushFrame, BitVec.sub_sub]

@[simp] theorem enterHandler_a (k : Trap) (s : State) : (enterHandler k s).a = s.a := by
  simp [enterHandler]
@[simp] theorem enterHandler_b (k : Trap) (s : State) : (enterHandler k s).b = s.b := by
  simp [enterHandler]
@[simp] theorem enterHandler_ix (k : Trap) (s : State) : (enterHandler k s).ix = s.ix := by
  simp [enterHandler]
@[simp] theorem enterHandler_iy (k : Trap) (s : State) : (enterHandler k s).iy = s.iy := by
  simp [enterHandler]
@[simp] theorem enterHandler_sp (k : Trap) (s : State) : (enterHandler k s).sp = s.sp := by
  simp [enterHandler]
@[simp] theorem enterHandler_xirqHeld (k : Trap) (s : State) : (enterHandler k s).xirqHeld = s.xirqHeld := by
  simp [enterHandler]
@[simp] theorem enterHandler_memMap (k : Trap) (s : State) : (enterHandler k s).memMap = s.memMap := by
  simp [enterHandler]
@[simp] theorem enterHandler_irqLines (k : Trap) (s : State) : (enterHandler k s).irqLines = s.irqLines := by
  simp [enterHandler]
@[simp] theorem enterHandler_testMode (k : Trap) (s : State) : (enterHandler k s).testMode = s.testMode := by
  simp [enterHandler]

@[simp] theorem enterHandler_ccr (k : Trap) (s : State) : (enterHandler k s).ccr = trapMasks k s.ccr := by
  simp [enterHandler]
@[simp] theorem enterHandler_runState (k : Trap) (s : State) : (enterHandler k s).runState = .run := by
  simp [enterHandler]
@[simp] theorem enterHandler_irqInhibit (k : Trap) (s : State) : (enterHandler k s).irqInhibit = false := by
  simp [enterHandler]

@[simp] theorem watchXirq_a (s : State) : (watchXirq s).a = s.a := by
  unfold watchXirq; split <;> rfl
@[simp] theorem watchXirq_b (s : State) : (watchXirq s).b = s.b := by
  unfold watchXirq; split <;> rfl
@[simp] theorem watchXirq_ix (s : State) : (watchXirq s).ix = s.ix := by
  unfold watchXirq; split <;> rfl
@[simp] theorem watchXirq_iy (s : State) : (watchXirq s).iy = s.iy := by
  unfold watchXirq; split <;> rfl
@[simp] theorem watchXirq_sp (s : State) : (watchXirq s).sp = s.sp := by
  unfold watchXirq; split <;> rfl
@[simp] theorem watchXirq_pc (s : State) : (watchXirq s).pc = s.pc := by
  unfold watchXirq; split <;> rfl
@[simp] theorem watchXirq_ccr (s : State) : (watchXirq s).ccr = s.ccr := by
  unfold watchXirq; split <;> rfl
@[simp] theorem watchXirq_runState (s : State) : (watchXirq s).runState = s.runState := by
  unfold watchXirq; split <;> rfl
@[simp] theorem watchXirq_pending (s : State) : (watchXirq s).pending = s.pending := by
  unfold watchXirq; split <;> rfl
@[simp] theorem watchXirq_irqInhibit (s : State) : (watchXirq s).irqInhibit = s.irqInhibit := by
  unfold watchXirq; split <;> rfl
@[simp] theorem watchXirq_resets (s : State) : (watchXirq s).resets = s.resets := by
  unfold watchXirq; split <;> rfl
@[simp] theorem watchXirq_mem (s : State) : (watchXirq s).mem = s.mem := by
  unfold watchXirq; split <;> rfl
@[simp] theorem watchXirq_memMap (s : State) : (watchXirq s).memMap = s.memMap := by
  unfold watchXirq; split <;> rfl
@[simp] theorem watchXirq_irqLines (s : State) : (watchXirq s).irqLines = s.irqLines := by
  unfold watchXirq; split <;> rfl
@[simp] theorem watchXirq_testMode (s : State) : (watchXirq s).testMode = s.testMode := by
  unfold watchXirq; split <;> rfl
@[simp] theorem watchXirq_device (s : State) : (watchXirq s).device = s.device := by
  unfold watchXirq; split <;> rfl
@[simp] theorem watchXirq_draws (s : State) : (watchXirq s).draws = s.draws := by
  unfold watchXirq; split <;> rfl

/-- A look at XIRQ is an update of its record alone, in STOP. -/
theorem watchXirq_eq (s : State) :
    watchXirq s = { s with
      xirqHeld := if s.runState = .stop then s.xirqHeld && s.pending.xirq else s.xirqHeld } := by
  unfold watchXirq
  split <;> rfl

theorem watchXirq_accessed (s : State) : Accessed s (watchXirq s) := by
  rw [watchXirq_eq]
  exact (Accessed.refl s).setXirqHeld _

@[simp] theorem operand8_a (o : Src8) (s : State) : (operand8 o s).2.a = s.a := by
  cases o <;> simp [operand8]
@[simp] theorem operand8_b (o : Src8) (s : State) : (operand8 o s).2.b = s.b := by
  cases o <;> simp [operand8]
@[simp] theorem operand8_ix (o : Src8) (s : State) : (operand8 o s).2.ix = s.ix := by
  cases o <;> simp [operand8]
@[simp] theorem operand8_iy (o : Src8) (s : State) : (operand8 o s).2.iy = s.iy := by
  cases o <;> simp [operand8]
@[simp] theorem operand8_sp (o : Src8) (s : State) : (operand8 o s).2.sp = s.sp := by
  cases o <;> simp [operand8]
@[simp] theorem operand8_pc (o : Src8) (s : State) : (operand8 o s).2.pc = s.pc := by
  cases o <;> simp [operand8]
@[simp] theorem operand8_ccr (o : Src8) (s : State) : (operand8 o s).2.ccr = s.ccr := by
  cases o <;> simp [operand8]
@[simp] theorem operand8_runState (o : Src8) (s : State) : (operand8 o s).2.runState = s.runState := by
  cases o <;> simp [operand8]
@[simp] theorem operand8_irqInhibit (o : Src8) (s : State) : (operand8 o s).2.irqInhibit = s.irqInhibit := by
  cases o <;> simp [operand8]
@[simp] theorem operand8_xirqHeld (o : Src8) (s : State) : (operand8 o s).2.xirqHeld = s.xirqHeld := by
  cases o <;> simp [operand8]
@[simp] theorem operand8_memMap (o : Src8) (s : State) : (operand8 o s).2.memMap = s.memMap := by
  cases o <;> simp [operand8]
@[simp] theorem operand8_irqLines (o : Src8) (s : State) : (operand8 o s).2.irqLines = s.irqLines := by
  cases o <;> simp [operand8]
@[simp] theorem operand8_testMode (o : Src8) (s : State) : (operand8 o s).2.testMode = s.testMode := by
  cases o <;> simp [operand8]

@[simp] theorem operand16_a (o : Src16) (s : State) : (operand16 o s).2.a = s.a := by
  cases o <;> simp [operand16]
@[simp] theorem operand16_b (o : Src16) (s : State) : (operand16 o s).2.b = s.b := by
  cases o <;> simp [operand16]
@[simp] theorem operand16_ix (o : Src16) (s : State) : (operand16 o s).2.ix = s.ix := by
  cases o <;> simp [operand16]
@[simp] theorem operand16_iy (o : Src16) (s : State) : (operand16 o s).2.iy = s.iy := by
  cases o <;> simp [operand16]
@[simp] theorem operand16_sp (o : Src16) (s : State) : (operand16 o s).2.sp = s.sp := by
  cases o <;> simp [operand16]
@[simp] theorem operand16_pc (o : Src16) (s : State) : (operand16 o s).2.pc = s.pc := by
  cases o <;> simp [operand16]
@[simp] theorem operand16_ccr (o : Src16) (s : State) : (operand16 o s).2.ccr = s.ccr := by
  cases o <;> simp [operand16]
@[simp] theorem operand16_runState (o : Src16) (s : State) : (operand16 o s).2.runState = s.runState := by
  cases o <;> simp [operand16]
@[simp] theorem operand16_irqInhibit (o : Src16) (s : State) : (operand16 o s).2.irqInhibit = s.irqInhibit := by
  cases o <;> simp [operand16]
@[simp] theorem operand16_xirqHeld (o : Src16) (s : State) : (operand16 o s).2.xirqHeld = s.xirqHeld := by
  cases o <;> simp [operand16]
@[simp] theorem operand16_memMap (o : Src16) (s : State) : (operand16 o s).2.memMap = s.memMap := by
  cases o <;> simp [operand16]
@[simp] theorem operand16_irqLines (o : Src16) (s : State) : (operand16 o s).2.irqLines = s.irqLines := by
  cases o <;> simp [operand16]
@[simp] theorem operand16_testMode (o : Src16) (s : State) : (operand16 o s).2.testMode = s.testMode := by
  cases o <;> simp [operand16]

end Sys2Proof.Machine
end

