-- ==== Sys2Proof/Laws/Stored.lean ====
section
/-! SUPPORT. What each storing operation does: the bytes it stores, what else it may change, and that memory stays
in canonical form; and what the word accesses and pulls read. -/

namespace Sys2Proof.Machine

/-- One store after another: the later bytes stand first. -/
theorem Stored.append {l k : List (Word × Byte)} {s t u : State} (h : Stored l s t) (g : Stored k t u)
    (hm : t.memMap = s.memMap) : Stored (k ++ l) s u := by
  intro x
  rw [g x, h x, State.kind_congr hm x]
  by_cases hx : s.kind x = .ram
  · simp only [hx, if_true]
    clear h g
    induction k with
    | nil => rfl
    | cons e r ih =>
      obtain ⟨a, v⟩ := e
      simp only [List.cons_append, storedAt]
      split <;> simp_all
  · simp [hx]

/-- Two stores to different addresses commute. -/
theorem Stored.swap {p q : Word × Byte} (hne : p.1 ≠ q.1) {l : List (Word × Byte)} {s t : State}
    (h : Stored (p :: q :: l) s t) : Stored (q :: p :: l) s t := by
  intro x
  rw [h x]
  obtain ⟨a, v⟩ := p
  obtain ⟨b, w⟩ := q
  simp only [storedAt]
  by_cases h1 : a = x <;> by_cases h2 : b = x <;> simp_all

/-- `Stored` looks at the memory and the memory map only. -/
theorem Stored.of_eq {l : List (Word × Byte)} {s s' t : State} (h : Stored l s' t) (hm : s'.mem = s.mem)
    (hk : s'.memMap = s.memMap) : Stored l s t := by
  intro x
  rw [h x, State.kind_congr hk, hm]

/-- A write off the devices stores its byte. -/
theorem writeByte_stored {s : State} (h : s.mem.wf = true) {a : Word} (n : s.kind a ≠ .io) (v : Byte) :
    Stored [(a, v)] s (writeByte a v s) := by
  intro x
  rw [writeByte_byteAt h n]
  by_cases hx : a = x
  · subst hx
    by_cases hk : s.kind a = .ram <;> simp [hk, storedAt]
  · have : x ≠ a := fun e => hx e.symm
    simp [hx, this, storedAt]

/-- `StoresOnly` looks at the memory, the memory map, the requests and the devices' state only. -/
theorem StoresOnly.of_eq {as : List Word} {l : List (Word × Byte)} {s s' t : State} (h : StoresOnly as l s' t)
    (hm : s'.mem = s.mem) (hk : s'.memMap = s.memMap) (hp : s'.pending = s.pending) (hr : s'.resets = s.resets)
    (hd : s'.device = s.device) : StoresOnly as l s t := fun n =>
  have ⟨h1, h2, h3, h4⟩ := h (n.congr hk)
  ⟨h1.of_eq hm hk, h2.trans hp, h3.trans hr, h4.trans hd⟩

/-- Reads off the devices leave memory, the requests and the devices' state alone. -/
theorem ReadsUpTo.plain {as : List Word} {s t : State} (h : ReadsUpTo as s t) (n : NoIO s as) :
    t.mem = s.mem ∧ t.pending = s.pending ∧ t.resets = s.resets ∧ t.device = s.device := by
  have e := h.frame.plain n
  exact ⟨(congrArg State.mem e).trans rfl, (congrArg State.pending e).trans rfl, (congrArg State.resets e).trans rfl,
    (congrArg State.device e).trans rfl⟩

/-- Reads after the stores. -/
theorem StoresOnly.reads {as bs : List Word} {l : List (Word × Byte)} {s t u : State} (h : StoresOnly as l s t)
    (k : ReadsUpTo bs t u) (m : t.memMap = s.memMap) : StoresOnly (as ++ bs) l s u := fun n =>
  have ⟨n1, n2⟩ := n.append
  have ⟨h1, h2, h3, h4⟩ := h n1
  have ⟨k1, k2, k3, k4⟩ := k.plain (n2.congr m)
  ⟨fun x => by rw [k1]; exact h1 x, k2.trans h2, k3.trans h3, k4.trans h4⟩

/-! ### Writes one after another -/

theorem writeAll_append (l k : List (Word × Byte)) (s : State) : writeAll (l ++ k) s = writeAll k (writeAll l s) := by
  induction l generalizing s with
  | nil => rfl
  | cons e rest ih => exact ih _

theorem writeAll_onlyAccess (l : List (Word × Byte)) (s : State) : OnlyAccess s (writeAll l s) := by
  induction l generalizing s with
  | nil => exact .refl s
  | cons e rest ih => exact (writeByte_onlyAccess e.1 e.2 s).trans (ih _)

theorem writeAll_withRegisters (l : List (Word × Byte)) (s r : State) :
    writeAll l (s.withRegisters r) = (writeAll l s).withRegisters r := by
  induction l generalizing s with
  | nil => rfl
  | cons e rest ih =>
    obtain ⟨a, v⟩ := e
    rw [writeAll, writeAll, writeByte_withRegisters, ih]

/-- Writes commute with a change of SP. -/
theorem writeAll_setSP (l : List (Word × Byte)) (s : State) (w : Word) :
    writeAll l { s with sp := w } = { writeAll l s with sp := w } :=
  (writeAll_withRegisters l s { s with sp := w }).trans
    (by rw [(writeAll_onlyAccess l s).fields]; rfl)

/-- Writes off the devices change memory alone. -/
theorem writeAll_plain {l : List (Word × Byte)} {s : State} (n : NoIO s (l.map Prod.fst)) :
    writeAll l s = { s with mem := (writeAll l s).mem } := by
  induction l generalizing s with
  | nil => rfl
  | cons e rest ih =>
    obtain ⟨a, v⟩ := e
    rw [writeAll, ih (fun b hb => by
      rw [(writeByte_onlyAccess a v s).kind]; exact n b (List.mem_cons_of_mem _ hb)),
      writeByte_plain (n a List.mem_cons_self)]

/-- Writes off the devices store their bytes, the last first. -/
theorem writeAll_stored_reverse {l : List (Word × Byte)} {s : State} (h : s.mem.wf = true)
    (n : NoIO s (l.map Prod.fst)) : Stored l.reverse s (writeAll l s) := by
  induction l generalizing s with
  | nil => intro x; simp [storedAt, writeAll]
  | cons e rest ih =>
    obtain ⟨a, v⟩ := e
    have := ih (s := writeByte a v s) (writeByte_wf h a v) (fun b hb => by
      rw [(writeByte_onlyAccess a v s).kind]; exact n b (List.mem_cons_of_mem _ hb))
    rw [List.reverse_cons]
    exact (writeByte_stored h (n a List.mem_cons_self) v).append this (writeByte_memMap _ _ _)

theorem storedAt_append (l k : List (Word × Byte)) (x : Word) (old : Byte) :
    storedAt (l ++ k) x old = storedAt l x (storedAt k x old) := by
  induction l with
  | nil => rfl
  | cons e rest ih => simp only [List.cons_append, storedAt, ih]

theorem storedAt_of_not_mem {l : List (Word × Byte)} {x : Word} (h : x ∉ l.map Prod.fst) (old : Byte) :
    storedAt l x old = old := by
  induction l with
  | nil => rfl
  | cons e rest ih =>
    simp only [List.map_cons, List.mem_cons, not_or] at h
    rw [storedAt, if_neg (fun e => h.1 e.symm), ih h.2]

/-- At different addresses the order of the stores does not matter. -/
theorem storedAt_reverse {l : List (Word × Byte)} (h : (l.map Prod.fst).Nodup) (x : Word) (old : Byte) :
    storedAt l.reverse x old = storedAt l x old := by
  induction l generalizing old with
  | nil => rfl
  | cons e rest ih =>
    obtain ⟨a, v⟩ := e
    rw [List.map_cons, List.nodup_cons] at h
    rw [List.reverse_cons, storedAt_append, ih h.2, storedAt, storedAt, storedAt]
    split
    · rename_i hx
      subst hx
      exact storedAt_of_not_mem h.1 v
    · rfl

/-- Writes to different addresses store their bytes and nothing else, off the devices. -/
theorem writeAll_storesOnly {l : List (Word × Byte)} {s : State} (h : s.mem.wf = true)
    (d : (l.map Prod.fst).Nodup) : StoresOnly (l.map Prod.fst) l s (writeAll l s) := by
  intro n
  refine ⟨fun x => ?_, ?_, ?_, ?_⟩
  · rw [writeAll_stored_reverse h n x, storedAt_reverse d]
  all_goals rw [writeAll_plain n]

theorem writeByte_storesOnly {s : State} (h : s.mem.wf = true) (a : Word) (v : Byte) :
    StoresOnly [a] [(a, v)] s (writeByte a v s) :=
  writeAll_storesOnly (l := [(a, v)]) h (by simp)

/-! ### Words -/

theorem readWord_onlyReads (a : Word) (s : State) : OnlyReads [a, a + 1#16] s (readWord a s).2 :=
  (readByte_onlyReads a s).trans (readByte_onlyReads (a + 1#16) _)

/-- On storage a word read answers the two bytes there and changes nothing. -/
theorem readWord_storage {a : Word} {s : State} (h : Storage s a) (g : Storage s (a + 1#16)) :
    readWord a s = (s.mem.wordAt a, s) := by
  unfold readWord
  simp only [readByte_storage h, readByte_storage g]
  rfl

theorem writeWord_eq (a v : Word) (s : State) : writeWord a v s = writeAll [(a, hi v), (a + 1#16, lo v)] s := rfl

theorem word_nodup (a : Word) : [a, a + 1#16].Nodup := by
  simp [Word.ne_succ a]

theorem writeWord_storesOnly {s : State} (h : s.mem.wf = true) (a v : Word) :
    StoresOnly [a, a + 1#16] [(a, hi v), (a + 1#16, lo v)] s (writeWord a v s) :=
  writeAll_storesOnly (l := [(a, hi v), (a + 1#16, lo v)]) h (word_nodup a)

theorem writeWord_onlyAccess (a v : Word) (s : State) : OnlyAccess s (writeWord a v s) :=
  writeAll_onlyAccess [(a, hi v), (a + 1#16, lo v)] s

/-! ### The stack -/

/-- A push is a write at the old SP. -/
theorem push8_eq (v : Byte) (s : State) : push8 v s = writeAll [(s.sp, v)] { s with sp := s.sp - 1#16 } := by
  rw [writeAll_setSP]
  simp [push8, writeAll, State.setSP]

/-- A word push is two writes, the low byte first. -/
theorem push16_eq (v : Word) (s : State) :
    push16 v s = writeAll [(s.sp, lo v), (s.sp - 1#16, hi v)] { s with sp := s.sp - 2#16 } := by
  simp only [push16, push8_eq, writeAll_setSP, BitVec.sub_sub, ← writeAll_append]
  rfl

/-- The frame is nine writes, in the order of the pushes. -/
theorem pushFrame_eq (ret : Word) (s : State) :
    pushFrame ret s = writeAll (frameBytes ret s) { s with sp := s.sp - 9#16 } := by
  simp only [pushFrame, push16_eq, push8_eq, writeAll_setSP, BitVec.sub_sub, ← writeAll_append]
  rfl

/-- The nine addresses of a frame are different. -/
theorem frameBytes_nodup (ret : Word) (s : State) : ((frameBytes ret s).map Prod.fst).Nodup := by
  simp [frameBytes]
  bv_omega

theorem pushFrame_storesOnly {s : State} (h : s.mem.wf = true) (ret : Word) :
    StoresOnly ((frameBytes ret s).map Prod.fst) (frameBytes ret s) s (pushFrame ret s) := by
  rw [pushFrame_eq]
  exact (writeAll_storesOnly (s := { s with sp := s.sp - 9#16 }) h (frameBytes_nodup ret s)).of_eq rfl rfl rfl rfl rfl

theorem push8_onlyAccess (v : Byte) (s : State) : OnlyAccess { s with sp := s.sp - 1#16 } (push8 v s) := by
  rw [push8_eq]; exact writeAll_onlyAccess _ _

theorem push16_onlyAccess (v : Word) (s : State) : OnlyAccess { s with sp := s.sp - 2#16 } (push16 v s) := by
  rw [push16_eq]; exact writeAll_onlyAccess _ _

theorem pushFrame_onlyAccess (ret : Word) (s : State) :
    OnlyAccess { s with sp := s.sp - 9#16 } (pushFrame ret s) := by
  rw [pushFrame_eq]; exact writeAll_onlyAccess _ _

/-- A pull is a read above SP, which moves up. -/
theorem pull8_eq (s : State) :
    pull8 s = ((readByte (s.sp + 1#16) s).1, { (readByte (s.sp + 1#16) s).2 with sp := s.sp + 1#16 }) :=
  readByte_setSP (s.sp + 1#16) (s.sp + 1#16) s

/-- A word pull is a word read above SP, which moves up by two. -/
theorem pull16_eq (s : State) :
    pull16 s = ((readWord (s.sp + 1#16) s).1, { (readWord (s.sp + 1#16) s).2 with sp := s.sp + 2#16 }) := by
  unfold pull16 readWord
  simp only [pull8_eq, readByte_setSP, BitVec.add_assoc]
  rfl

theorem pull8_onlyReads (s : State) : OnlyReads [s.sp + 1#16] { s with sp := s.sp + 1#16 } (pull8 s).2 :=
  readByte_onlyReads (s.sp + 1#16) { s with sp := s.sp + 1#16 }

theorem pull8_readsUpTo (s : State) : ReadsUpTo [s.sp + 1#16] s (pull8 s).2 := (pull8_onlyReads s).upTo

theorem pull16_readsUpTo (s : State) : ReadsUpTo [s.sp + 1#16, s.sp + 2#16] s (pull16 s).2 := by
  have h := (pull8_readsUpTo s).trans (pull8_readsUpTo (pull8 s).2)
  rw [pull8_sp, BitVec.add_assoc] at h
  exact h

theorem pull16_onlyReads (s : State) :
    OnlyReads [s.sp + 1#16, s.sp + 2#16] { s with sp := s.sp + 2#16 } (pull16 s).2 :=
  (pull16_readsUpTo s).onlyReads (by apply State.ext <;> simp [State.withRegisters])

/-! ### Traps and reset -/

/-- Entering a handler only reads the vector. -/
theorem enterHandler_readsUpTo (k : Trap) (s : State) :
    ReadsUpTo [vector k, vector k + 1#16] s (enterHandler k s) :=
  ((readWord_onlyReads (vector k)
    (((s.setCcr (trapMasks k s.ccr)).setIrqInhibit false).setRunState .run)).upTo (s := s)).update rfl

/-- Entering a handler: masks, inhibit, RUN, and PC from the vector. -/
theorem enterHandler_onlyReads (k : Trap) (s : State) :
    OnlyReads [vector k, vector k + 1#16] { s with
      pc := (enterHandler k s).pc, runState := .run, irqInhibit := false, ccr := trapMasks k s.ccr }
      (enterHandler k s) :=
  (enterHandler_readsUpTo k s).onlyReads (by apply State.ext <;> simp [State.withRegisters])

theorem pushFrame_accessed (ret : Word) (s : State) : Accessed s (pushFrame ret s) :=
  (pushFrame_onlyAccess ret s).accessed

theorem trap_accessed (k : Trap) (ret : Word) (s : State) : Accessed s (trap k ret s) :=
  (pushFrame_accessed ret s).trans (enterHandler_readsUpTo k _).accessed

theorem raiseIllegalOpcode_accessed (a : Word) (s : State) : Accessed s (raiseIllegalOpcode a s) :=
  trap_accessed _ _ s

/-- A trap changes SP, PC, the masks, the inhibit and the run state, and what accesses may change. -/
theorem trap_onlyAccess (k : Trap) (ret : Word) (s : State) :
    OnlyAccess { s with
      sp := s.sp - 9#16, pc := (trap k ret s).pc, runState := .run, irqInhibit := false, ccr := trapMasks k s.ccr }
      (trap k ret s) :=
  (trap_accessed k ret s).onlyAccess (by apply State.ext <;> simp [State.withRegisters, trap])

/-- A trap keeps memory in canonical form. -/
theorem trap_wf {s : State} (h : s.mem.wf = true) (k : Trap) (ret : Word) : (trap k ret s).mem.wf = true :=
  (trap_accessed k ret s).wf h

/-- A pull of a byte into a register, then reads of a run of `n` addresses above the new SP. -/
theorem ReadsUpTo.pull8_run {n : Nat} {s t u : State} (e : t = (pull8 s).2.withRegisters t) (p : t.sp = s.sp + 1#16)
    (h : ReadsUpTo (addressRun n (t.sp + 1#16)) t u) : ReadsUpTo (addressRun (n + 1) (s.sp + 1#16)) s u := by
  rw [p] at h
  exact ((pull8_readsUpTo s).update e).trans h

/-- A pull of a word into a register, then reads of a run of `n` addresses above the new SP. -/
theorem ReadsUpTo.pull16_run {n : Nat} {s t u : State} (e : t = (pull16 s).2.withRegisters t)
    (p : t.sp = s.sp + 2#16) (h : ReadsUpTo (addressRun n (t.sp + 1#16)) t u) :
    ReadsUpTo (addressRun (n + 2) (s.sp + 1#16)) s u := by
  rw [p, show s.sp + 2#16 + 1#16 = s.sp + 1#16 + 1#16 + 1#16 by simp [BitVec.add_assoc]] at h
  have := ((pull16_readsUpTo s).update e).trans h
  rw [show s.sp + 2#16 = s.sp + 1#16 + 1#16 by simp [BitVec.add_assoc]] at this
  exact this

/-- The return from a trap reads the nine bytes above SP. -/
theorem returnFromTrap_readsUpTo (s : State) : ReadsUpTo (addressRun 9 (s.sp + 1#16)) s (returnFromTrap s) := by
  have chain : ∀ s1, s1 = (pull8 s).2.setCcr ((pull8 s).2.ccr.load (pull8 s).1) →
      ∀ s2, s2 = (pull8 s1).2.setB (pull8 s1).1 → ∀ s3, s3 = (pull8 s2).2.setA (pull8 s2).1 →
      ∀ s4, s4 = (pull16 s3).2.setIX (pull16 s3).1 → ∀ s5, s5 = (pull16 s4).2.setIY (pull16 s4).1 →
      ∀ s6, s6 = (pull16 s5).2.setPC (pull16 s5).1 → ReadsUpTo (addressRun 9 (s.sp + 1#16)) s s6 := by
    intro s1 e1 s2 e2 s3 e3 s4 e4 s5 e5 s6 e6
    refine .pull8_run (n := 8) (t := s1) (by rw [e1]; rfl) (by simp [e1]) ?_
    refine .pull8_run (n := 7) (t := s2) (by rw [e2]; rfl) (by simp [e2]) ?_
    refine .pull8_run (n := 6) (t := s3) (by rw [e3]; rfl) (by simp [e3]) ?_
    refine .pull16_run (n := 4) (t := s4) (by rw [e4]; rfl) (by simp [e4]) ?_
    refine .pull16_run (n := 2) (t := s5) (by rw [e5]; rfl) (by simp [e5]) ?_
    exact .pull16_run (n := 0) (t := s6) (by rw [e6]; rfl) (by simp [e6]) (.refl _ _)
  exact chain _ rfl _ rfl _ rfl _ rfl _ rfl _ rfl

/-- The return from a trap changes the registers. -/
theorem returnFromTrap_onlyReads (s : State) :
    OnlyReads (addressRun 9 (s.sp + 1#16)) { s with
      a := (returnFromTrap s).a, b := (returnFromTrap s).b, ix := (returnFromTrap s).ix
      iy := (returnFromTrap s).iy, pc := (returnFromTrap s).pc, sp := s.sp + 9#16
      ccr := s.ccr.load (pull8 s).1 } (returnFromTrap s) :=
  (returnFromTrap_readsUpTo s).onlyReads
    (by apply State.ext <;> simp [State.withRegisters, returnFromTrap, BitVec.add_assoc])

/-- A reset leaves the parameters, changes memory only as the read of its vector does, and, where that is no
device's, clears its own request and no other. -/
theorem takeReset_keeps (k : ResetKind) (s : State) :
    (takeReset k s).memMap = s.memMap ∧ (takeReset k s).irqLines = s.irqLines ∧
    (takeReset k s).testMode = s.testMode ∧ (s.mem.wf = true → (takeReset k s).mem.wf = true) ∧
    (∀ x, s.kind x ≠ .ram → (takeReset k s).mem.byteAt x = s.mem.byteAt x) ∧
    (NoIO s [resetVector k, resetVector k + 1#16] → (takeReset k s).mem = s.mem ∧
      (takeReset k s).resets = servedReset s.resets k) := by
  have h := readWord_onlyReads (resetVector k)
    ((((drawRegisters s).setRunState .run).setIrqInhibit false).setResets (servedReset s.resets k))
  refine ⟨h.access.memMap, ?_, ?_, h.access.canonical, h.access.fixed, fun n => ?_⟩
  · simp [takeReset, drawRegisters]
  · simp [takeReset, drawRegisters]
  · have e := h.plain n
    exact ⟨(congrArg State.mem e).trans rfl, (congrArg State.resets e).trans rfl⟩

end Sys2Proof.Machine
end

