-- ==== Sys2Proof/Laws/Fetch.lean ====
section
/-! SUPPORT. What fetching does: from storage it answers the bytes standing at PC and moves PC past them; anywhere
it changes PC and what accesses may change. -/

namespace Sys2Proof.Machine

theorem fetch8_storage {s : State} (h : Storage s s.pc) : fetch8 s = (s.mem.byteAt s.pc, s.setPC (s.pc + 1#16)) := by
  unfold fetch8
  rw [readByte_storage h]

/-- Code stands where it stood, whatever PC is. -/
theorem CodeAt.setPC {s : State} {a : Word} {bs : List Byte} (h : CodeAt s a bs) (v : Word) :
    CodeAt (s.setPC v) a bs := by
  induction bs generalizing a with
  | nil => trivial
  | cons b rest ih => exact ⟨h.1, h.2.1, ih h.2.2⟩

/-- Fetching bytes that stand in storage. -/
theorem fetchBytes_code {s : State} {bs : List Byte} (h : CodeAt s s.pc bs) :
    fetchBytes bs.length s = (bs, s.setPC (s.pc + BitVec.ofNat 16 bs.length)) := by
  induction bs generalizing s with
  | nil => simp [fetchBytes, State.setPC]
  | cons b rest ih =>
    obtain ⟨h1, h2, h3⟩ := h
    have := ih (s := s.setPC (s.pc + 1#16)) (h3.setPC _)
    simp only [List.length_cons, fetchBytes, fetch8_storage h1, this, h2]
    simp only [State.setPC, Prod.mk.injEq, true_and, BitVec.add_assoc, State.mk.injEq, and_true]
    rw [show BitVec.ofNat 16 (rest.length + 1) = 1#16 + BitVec.ofNat 16 rest.length by
      rw [BitVec.ofNat_add, BitVec.add_comm]]

theorem OnlyReads.pc_congr {as : List Word} {s t : State} (h : OnlyReads as s t) (v : Word) :
    OnlyReads as { s with pc := v } { t with pc := v } where
  access := ⟨by rw [h.access.fields], h.access.fixed, h.access.canonical⟩
  plain n := by rw [h.plain n]

/-- Fetching a byte moves PC past it; besides, it does what a read does. -/
theorem fetch8_onlyReads (s : State) : OnlyReads [s.pc] { s with pc := s.pc + 1#16 } (fetch8 s).2 := by
  have h := (readByte_onlyReads s.pc s).pc_congr (s.pc + 1#16)
  unfold fetch8
  dsimp only
  rw [readByte_pc]
  exact h

theorem fetchBytes_onlyReads (n : Nat) (s : State) :
    OnlyReads (addressRun n s.pc) { s with pc := (fetchBytes n s).2.pc } (fetchBytes n s).2 := by
  induction n generalizing s with
  | zero => exact .refl _ s
  | succ n ih =>
    have h := ih (fetch8 s).2
    rw [show (fetch8 s).2.pc = s.pc + 1#16 by simp [fetch8]] at h
    exact ((fetch8_onlyReads s).pc_congr _).trans h

/-- Fetching an instruction changes PC and what accesses may change. -/
theorem fetchInstr_onlyAccess (s : State) :
    OnlyAccess { s with pc := (fetchInstr s).2.pc } (fetchInstr s).2 := by
  unfold fetchInstr
  dsimp only
  split
  · exact ((fetch8_onlyReads s).pc_congr _).access.trans (fetchBytes_onlyReads _ _).access
  · exact (((fetch8_onlyReads s).pc_congr _).access.trans ((fetch8_onlyReads (fetch8 s).2).pc_congr _).access).trans
      (fetchBytes_onlyReads _ _).access

end Sys2Proof.Machine
end

