-- ==== Sys2Proof/Laws/Flags.lean ====
section
/-! SUPPORT. The CCR bits that each flag computation leaves alone. -/

namespace Sys2Proof.Machine

@[simp] theorem nz8_s (r : Byte) (f : Ccr) : (nz8 r f).s = f.s := rfl
@[simp] theorem nz8_x (r : Byte) (f : Ccr) : (nz8 r f).x = f.x := rfl
@[simp] theorem nz8_h (r : Byte) (f : Ccr) : (nz8 r f).h = f.h := rfl
@[simp] theorem nz8_i (r : Byte) (f : Ccr) : (nz8 r f).i = f.i := rfl
@[simp] theorem nz8_v (r : Byte) (f : Ccr) : (nz8 r f).v = f.v := rfl
@[simp] theorem nz8_c (r : Byte) (f : Ccr) : (nz8 r f).c = f.c := rfl

@[simp] theorem nz16_s (r : Word) (f : Ccr) : (nz16 r f).s = f.s := rfl
@[simp] theorem nz16_x (r : Word) (f : Ccr) : (nz16 r f).x = f.x := rfl
@[simp] theorem nz16_h (r : Word) (f : Ccr) : (nz16 r f).h = f.h := rfl
@[simp] theorem nz16_i (r : Word) (f : Ccr) : (nz16 r f).i = f.i := rfl
@[simp] theorem nz16_v (r : Word) (f : Ccr) : (nz16 r f).v = f.v := rfl
@[simp] theorem nz16_c (r : Word) (f : Ccr) : (nz16 r f).c = f.c := rfl

@[simp] theorem logic8_s (r : Byte) (f : Ccr) : (logic8 r f).s = f.s := rfl
@[simp] theorem logic8_x (r : Byte) (f : Ccr) : (logic8 r f).x = f.x := rfl
@[simp] theorem logic8_h (r : Byte) (f : Ccr) : (logic8 r f).h = f.h := rfl
@[simp] theorem logic8_i (r : Byte) (f : Ccr) : (logic8 r f).i = f.i := rfl
@[simp] theorem logic8_c (r : Byte) (f : Ccr) : (logic8 r f).c = f.c := rfl

@[simp] theorem logic16_s (r : Word) (f : Ccr) : (logic16 r f).s = f.s := rfl
@[simp] theorem logic16_x (r : Word) (f : Ccr) : (logic16 r f).x = f.x := rfl
@[simp] theorem logic16_h (r : Word) (f : Ccr) : (logic16 r f).h = f.h := rfl
@[simp] theorem logic16_i (r : Word) (f : Ccr) : (logic16 r f).i = f.i := rfl
@[simp] theorem logic16_c (r : Word) (f : Ccr) : (logic16 r f).c = f.c := rfl

@[simp] theorem addFlags8_s (a m : Byte) (c : Bool) (f : Ccr) : (addFlags8 a m c f).s = f.s := rfl
@[simp] theorem addFlags8_x (a m : Byte) (c : Bool) (f : Ccr) : (addFlags8 a m c f).x = f.x := rfl
@[simp] theorem addFlags8_i (a m : Byte) (c : Bool) (f : Ccr) : (addFlags8 a m c f).i = f.i := rfl

@[simp] theorem subFlags8_s (a m : Byte) (c : Bool) (f : Ccr) : (subFlags8 a m c f).s = f.s := rfl
@[simp] theorem subFlags8_x (a m : Byte) (c : Bool) (f : Ccr) : (subFlags8 a m c f).x = f.x := rfl
@[simp] theorem subFlags8_h (a m : Byte) (c : Bool) (f : Ccr) : (subFlags8 a m c f).h = f.h := rfl
@[simp] theorem subFlags8_i (a m : Byte) (c : Bool) (f : Ccr) : (subFlags8 a m c f).i = f.i := rfl

@[simp] theorem addFlags16_s (a m : Word) (f : Ccr) : (addFlags16 a m f).s = f.s := rfl
@[simp] theorem addFlags16_x (a m : Word) (f : Ccr) : (addFlags16 a m f).x = f.x := rfl
@[simp] theorem addFlags16_h (a m : Word) (f : Ccr) : (addFlags16 a m f).h = f.h := rfl
@[simp] theorem addFlags16_i (a m : Word) (f : Ccr) : (addFlags16 a m f).i = f.i := rfl

@[simp] theorem subFlags16_s (a m : Word) (f : Ccr) : (subFlags16 a m f).s = f.s := rfl
@[simp] theorem subFlags16_x (a m : Word) (f : Ccr) : (subFlags16 a m f).x = f.x := rfl
@[simp] theorem subFlags16_h (a m : Word) (f : Ccr) : (subFlags16 a m f).h = f.h := rfl
@[simp] theorem subFlags16_i (a m : Word) (f : Ccr) : (subFlags16 a m f).i = f.i := rfl

@[simp] theorem shiftFlags8_s (r : Byte) (o : Bool) (f : Ccr) : (shiftFlags8 r o f).s = f.s := rfl
@[simp] theorem shiftFlags8_x (r : Byte) (o : Bool) (f : Ccr) : (shiftFlags8 r o f).x = f.x := rfl
@[simp] theorem shiftFlags8_h (r : Byte) (o : Bool) (f : Ccr) : (shiftFlags8 r o f).h = f.h := rfl
@[simp] theorem shiftFlags8_i (r : Byte) (o : Bool) (f : Ccr) : (shiftFlags8 r o f).i = f.i := rfl

@[simp] theorem shiftFlags16_s (r : Word) (o : Bool) (f : Ccr) : (shiftFlags16 r o f).s = f.s := rfl
@[simp] theorem shiftFlags16_x (r : Word) (o : Bool) (f : Ccr) : (shiftFlags16 r o f).x = f.x := rfl
@[simp] theorem shiftFlags16_h (r : Word) (o : Bool) (f : Ccr) : (shiftFlags16 r o f).h = f.h := rfl
@[simp] theorem shiftFlags16_i (r : Word) (o : Bool) (f : Ccr) : (shiftFlags16 r o f).i = f.i := rfl

@[simp] theorem comFlags_s (r : Byte) (f : Ccr) : (comFlags r f).s = f.s := rfl
@[simp] theorem comFlags_x (r : Byte) (f : Ccr) : (comFlags r f).x = f.x := rfl
@[simp] theorem comFlags_h (r : Byte) (f : Ccr) : (comFlags r f).h = f.h := rfl
@[simp] theorem comFlags_i (r : Byte) (f : Ccr) : (comFlags r f).i = f.i := rfl

@[simp] theorem negFlags_s (r : Byte) (f : Ccr) : (negFlags r f).s = f.s := rfl
@[simp] theorem negFlags_x (r : Byte) (f : Ccr) : (negFlags r f).x = f.x := rfl
@[simp] theorem negFlags_h (r : Byte) (f : Ccr) : (negFlags r f).h = f.h := rfl
@[simp] theorem negFlags_i (r : Byte) (f : Ccr) : (negFlags r f).i = f.i := rfl

@[simp] theorem incFlags_s (r : Byte) (f : Ccr) : (incFlags r f).s = f.s := rfl
@[simp] theorem incFlags_x (r : Byte) (f : Ccr) : (incFlags r f).x = f.x := rfl
@[simp] theorem incFlags_h (r : Byte) (f : Ccr) : (incFlags r f).h = f.h := rfl
@[simp] theorem incFlags_i (r : Byte) (f : Ccr) : (incFlags r f).i = f.i := rfl
@[simp] theorem incFlags_c (r : Byte) (f : Ccr) : (incFlags r f).c = f.c := rfl

@[simp] theorem decFlags_s (r : Byte) (f : Ccr) : (decFlags r f).s = f.s := rfl
@[simp] theorem decFlags_x (r : Byte) (f : Ccr) : (decFlags r f).x = f.x := rfl
@[simp] theorem decFlags_h (r : Byte) (f : Ccr) : (decFlags r f).h = f.h := rfl
@[simp] theorem decFlags_i (r : Byte) (f : Ccr) : (decFlags r f).i = f.i := rfl
@[simp] theorem decFlags_c (r : Byte) (f : Ccr) : (decFlags r f).c = f.c := rfl

@[simp] theorem zOnly16_s (r : Word) (f : Ccr) : (zOnly16 r f).s = f.s := rfl
@[simp] theorem zOnly16_x (r : Word) (f : Ccr) : (zOnly16 r f).x = f.x := rfl
@[simp] theorem zOnly16_h (r : Word) (f : Ccr) : (zOnly16 r f).h = f.h := rfl
@[simp] theorem zOnly16_i (r : Word) (f : Ccr) : (zOnly16 r f).i = f.i := rfl
@[simp] theorem zOnly16_n (r : Word) (f : Ccr) : (zOnly16 r f).n = f.n := rfl
@[simp] theorem zOnly16_v (r : Word) (f : Ccr) : (zOnly16 r f).v = f.v := rfl
@[simp] theorem zOnly16_c (r : Word) (f : Ccr) : (zOnly16 r f).c = f.c := rfl

@[simp] theorem clrFlags_s (f : Ccr) : (clrFlags f).s = f.s := rfl
@[simp] theorem clrFlags_x (f : Ccr) : (clrFlags f).x = f.x := rfl
@[simp] theorem clrFlags_h (f : Ccr) : (clrFlags f).h = f.h := rfl
@[simp] theorem clrFlags_i (f : Ccr) : (clrFlags f).i = f.i := rfl

@[simp] theorem mulFlags_s (p : Word) (f : Ccr) : (mulFlags p f).s = f.s := rfl
@[simp] theorem mulFlags_x (p : Word) (f : Ccr) : (mulFlags p f).x = f.x := rfl
@[simp] theorem mulFlags_h (p : Word) (f : Ccr) : (mulFlags p f).h = f.h := rfl
@[simp] theorem mulFlags_i (p : Word) (f : Ccr) : (mulFlags p f).i = f.i := rfl
@[simp] theorem mulFlags_n (p : Word) (f : Ccr) : (mulFlags p f).n = f.n := rfl
@[simp] theorem mulFlags_z (p : Word) (f : Ccr) : (mulFlags p f).z = f.z := rfl
@[simp] theorem mulFlags_v (p : Word) (f : Ccr) : (mulFlags p f).v = f.v := rfl

@[simp] theorem tstFlags_s (r : Byte) (f : Ccr) : (tstFlags r f).s = f.s := rfl
@[simp] theorem tstFlags_x (r : Byte) (f : Ccr) : (tstFlags r f).x = f.x := rfl
@[simp] theorem tstFlags_h (r : Byte) (f : Ccr) : (tstFlags r f).h = f.h := rfl
@[simp] theorem tstFlags_i (r : Byte) (f : Ccr) : (tstFlags r f).i = f.i := rfl

end Sys2Proof.Machine
end

