-- ==== Sys2Proof/Laws/Operands.lean ====
section
/-! SUPPORT. What each shared shape of Operands.lean changes: its result, its CCR, and the fields it leaves alone. -/

namespace Sys2Proof.Machine

@[simp] theorem aluA_b (op : AluOp8) (o : Src8) (s : State) : (aluA op o s).b = s.b := by
  simp [aluA]
@[simp] theorem aluA_ix (op : AluOp8) (o : Src8) (s : State) : (aluA op o s).ix = s.ix := by
  simp [aluA]
@[simp] theorem aluA_iy (op : AluOp8) (o : Src8) (s : State) : (aluA op o s).iy = s.iy := by
  simp [aluA]
@[simp] theorem aluA_sp (op : AluOp8) (o : Src8) (s : State) : (aluA op o s).sp = s.sp := by
  simp [aluA]
@[simp] theorem aluA_pc (op : AluOp8) (o : Src8) (s : State) : (aluA op o s).pc = s.pc := by
  simp [aluA]
@[simp] theorem aluA_runState (op : AluOp8) (o : Src8) (s : State) : (aluA op o s).runState = s.runState := by
  simp [aluA]
@[simp] theorem aluA_irqInhibit (op : AluOp8) (o : Src8) (s : State) : (aluA op o s).irqInhibit = s.irqInhibit := by
  simp [aluA]
@[simp] theorem aluA_xirqHeld (op : AluOp8) (o : Src8) (s : State) : (aluA op o s).xirqHeld = s.xirqHeld := by
  simp [aluA]
@[simp] theorem aluA_memMap (op : AluOp8) (o : Src8) (s : State) : (aluA op o s).memMap = s.memMap := by
  simp [aluA]
@[simp] theorem aluA_irqLines (op : AluOp8) (o : Src8) (s : State) : (aluA op o s).irqLines = s.irqLines := by
  simp [aluA]
@[simp] theorem aluA_testMode (op : AluOp8) (o : Src8) (s : State) : (aluA op o s).testMode = s.testMode := by
  simp [aluA]

@[simp] theorem aluA_a (op : AluOp8) (o : Src8) (s : State) :
    (aluA op o s).a = op.result s.a (operand8 o s).1 s.ccr := by
  simp [aluA]
@[simp] theorem aluA_ccr (op : AluOp8) (o : Src8) (s : State) :
    (aluA op o s).ccr = op.flags s.a (operand8 o s).1 s.ccr := by
  simp [aluA]

@[simp] theorem aluB_a (op : AluOp8) (o : Src8) (s : State) : (aluB op o s).a = s.a := by
  simp [aluB]
@[simp] theorem aluB_ix (op : AluOp8) (o : Src8) (s : State) : (aluB op o s).ix = s.ix := by
  simp [aluB]
@[simp] theorem aluB_iy (op : AluOp8) (o : Src8) (s : State) : (aluB op o s).iy = s.iy := by
  simp [aluB]
@[simp] theorem aluB_sp (op : AluOp8) (o : Src8) (s : State) : (aluB op o s).sp = s.sp := by
  simp [aluB]
@[simp] theorem aluB_pc (op : AluOp8) (o : Src8) (s : State) : (aluB op o s).pc = s.pc := by
  simp [aluB]
@[simp] theorem aluB_runState (op : AluOp8) (o : Src8) (s : State) : (aluB op o s).runState = s.runState := by
  simp [aluB]
@[simp] theorem aluB_irqInhibit (op : AluOp8) (o : Src8) (s : State) : (aluB op o s).irqInhibit = s.irqInhibit := by
  simp [aluB]
@[simp] theorem aluB_xirqHeld (op : AluOp8) (o : Src8) (s : State) : (aluB op o s).xirqHeld = s.xirqHeld := by
  simp [aluB]
@[simp] theorem aluB_memMap (op : AluOp8) (o : Src8) (s : State) : (aluB op o s).memMap = s.memMap := by
  simp [aluB]
@[simp] theorem aluB_irqLines (op : AluOp8) (o : Src8) (s : State) : (aluB op o s).irqLines = s.irqLines := by
  simp [aluB]
@[simp] theorem aluB_testMode (op : AluOp8) (o : Src8) (s : State) : (aluB op o s).testMode = s.testMode := by
  simp [aluB]

@[simp] theorem aluB_b (op : AluOp8) (o : Src8) (s : State) :
    (aluB op o s).b = op.result s.b (operand8 o s).1 s.ccr := by
  simp [aluB]
@[simp] theorem aluB_ccr (op : AluOp8) (o : Src8) (s : State) :
    (aluB op o s).ccr = op.flags s.b (operand8 o s).1 s.ccr := by
  simp [aluB]

@[simp] theorem testA_a (op : AluOp8) (o : Src8) (s : State) : (testA op o s).a = s.a := by
  simp [testA]
@[simp] theorem testA_b (op : AluOp8) (o : Src8) (s : State) : (testA op o s).b = s.b := by
  simp [testA]
@[simp] theorem testA_ix (op : AluOp8) (o : Src8) (s : State) : (testA op o s).ix = s.ix := by
  simp [testA]
@[simp] theorem testA_iy (op : AluOp8) (o : Src8) (s : State) : (testA op o s).iy = s.iy := by
  simp [testA]
@[simp] theorem testA_sp (op : AluOp8) (o : Src8) (s : State) : (testA op o s).sp = s.sp := by
  simp [testA]
@[simp] theorem testA_pc (op : AluOp8) (o : Src8) (s : State) : (testA op o s).pc = s.pc := by
  simp [testA]
@[simp] theorem testA_runState (op : AluOp8) (o : Src8) (s : State) : (testA op o s).runState = s.runState := by
  simp [testA]
@[simp] theorem testA_irqInhibit (op : AluOp8) (o : Src8) (s : State) : (testA op o s).irqInhibit = s.irqInhibit := by
  simp [testA]
@[simp] theorem testA_xirqHeld (op : AluOp8) (o : Src8) (s : State) : (testA op o s).xirqHeld = s.xirqHeld := by
  simp [testA]
@[simp] theorem testA_memMap (op : AluOp8) (o : Src8) (s : State) : (testA op o s).memMap = s.memMap := by
  simp [testA]
@[simp] theorem testA_irqLines (op : AluOp8) (o : Src8) (s : State) : (testA op o s).irqLines = s.irqLines := by
  simp [testA]
@[simp] theorem testA_testMode (op : AluOp8) (o : Src8) (s : State) : (testA op o s).testMode = s.testMode := by
  simp [testA]

@[simp] theorem testA_ccr (op : AluOp8) (o : Src8) (s : State) :
    (testA op o s).ccr = op.flags s.a (operand8 o s).1 s.ccr := by
  simp [testA]

@[simp] theorem testB_a (op : AluOp8) (o : Src8) (s : State) : (testB op o s).a = s.a := by
  simp [testB]
@[simp] theorem testB_b (op : AluOp8) (o : Src8) (s : State) : (testB op o s).b = s.b := by
  simp [testB]
@[simp] theorem testB_ix (op : AluOp8) (o : Src8) (s : State) : (testB op o s).ix = s.ix := by
  simp [testB]
@[simp] theorem testB_iy (op : AluOp8) (o : Src8) (s : State) : (testB op o s).iy = s.iy := by
  simp [testB]
@[simp] theorem testB_sp (op : AluOp8) (o : Src8) (s : State) : (testB op o s).sp = s.sp := by
  simp [testB]
@[simp] theorem testB_pc (op : AluOp8) (o : Src8) (s : State) : (testB op o s).pc = s.pc := by
  simp [testB]
@[simp] theorem testB_runState (op : AluOp8) (o : Src8) (s : State) : (testB op o s).runState = s.runState := by
  simp [testB]
@[simp] theorem testB_irqInhibit (op : AluOp8) (o : Src8) (s : State) : (testB op o s).irqInhibit = s.irqInhibit := by
  simp [testB]
@[simp] theorem testB_xirqHeld (op : AluOp8) (o : Src8) (s : State) : (testB op o s).xirqHeld = s.xirqHeld := by
  simp [testB]
@[simp] theorem testB_memMap (op : AluOp8) (o : Src8) (s : State) : (testB op o s).memMap = s.memMap := by
  simp [testB]
@[simp] theorem testB_irqLines (op : AluOp8) (o : Src8) (s : State) : (testB op o s).irqLines = s.irqLines := by
  simp [testB]
@[simp] theorem testB_testMode (op : AluOp8) (o : Src8) (s : State) : (testB op o s).testMode = s.testMode := by
  simp [testB]

@[simp] theorem testB_ccr (op : AluOp8) (o : Src8) (s : State) :
    (testB op o s).ccr = op.flags s.b (operand8 o s).1 s.ccr := by
  simp [testB]

@[simp] theorem aluAB_b (op : AluOp8) (s : State) : (aluAB op s).b = s.b := by
  simp [aluAB]
@[simp] theorem aluAB_ix (op : AluOp8) (s : State) : (aluAB op s).ix = s.ix := by
  simp [aluAB]
@[simp] theorem aluAB_iy (op : AluOp8) (s : State) : (aluAB op s).iy = s.iy := by
  simp [aluAB]
@[simp] theorem aluAB_sp (op : AluOp8) (s : State) : (aluAB op s).sp = s.sp := by
  simp [aluAB]
@[simp] theorem aluAB_pc (op : AluOp8) (s : State) : (aluAB op s).pc = s.pc := by
  simp [aluAB]
@[simp] theorem aluAB_runState (op : AluOp8) (s : State) : (aluAB op s).runState = s.runState := by
  simp [aluAB]
@[simp] theorem aluAB_pending (op : AluOp8) (s : State) : (aluAB op s).pending = s.pending := by
  simp [aluAB]
@[simp] theorem aluAB_irqInhibit (op : AluOp8) (s : State) : (aluAB op s).irqInhibit = s.irqInhibit := by
  simp [aluAB]
@[simp] theorem aluAB_xirqHeld (op : AluOp8) (s : State) : (aluAB op s).xirqHeld = s.xirqHeld := by
  simp [aluAB]
@[simp] theorem aluAB_resets (op : AluOp8) (s : State) : (aluAB op s).resets = s.resets := by
  simp [aluAB]
@[simp] theorem aluAB_mem (op : AluOp8) (s : State) : (aluAB op s).mem = s.mem := by
  simp [aluAB]
@[simp] theorem aluAB_memMap (op : AluOp8) (s : State) : (aluAB op s).memMap = s.memMap := by
  simp [aluAB]
@[simp] theorem aluAB_irqLines (op : AluOp8) (s : State) : (aluAB op s).irqLines = s.irqLines := by
  simp [aluAB]
@[simp] theorem aluAB_testMode (op : AluOp8) (s : State) : (aluAB op s).testMode = s.testMode := by
  simp [aluAB]
@[simp] theorem aluAB_device (op : AluOp8) (s : State) : (aluAB op s).device = s.device := by
  simp [aluAB]
@[simp] theorem aluAB_draws (op : AluOp8) (s : State) : (aluAB op s).draws = s.draws := by
  simp [aluAB]

@[simp] theorem aluAB_a (op : AluOp8) (s : State) :
    (aluAB op s).a = op.result s.a s.b s.ccr := by
  simp [aluAB]
@[simp] theorem aluAB_ccr (op : AluOp8) (s : State) :
    (aluAB op s).ccr = op.flags s.a s.b s.ccr := by
  simp [aluAB]

@[simp] theorem aluD_ix (op : AluOp16) (o : Src16) (s : State) : (aluD op o s).ix = s.ix := by
  simp [aluD]
@[simp] theorem aluD_iy (op : AluOp16) (o : Src16) (s : State) : (aluD op o s).iy = s.iy := by
  simp [aluD]
@[simp] theorem aluD_sp (op : AluOp16) (o : Src16) (s : State) : (aluD op o s).sp = s.sp := by
  simp [aluD]
@[simp] theorem aluD_pc (op : AluOp16) (o : Src16) (s : State) : (aluD op o s).pc = s.pc := by
  simp [aluD]
@[simp] theorem aluD_runState (op : AluOp16) (o : Src16) (s : State) : (aluD op o s).runState = s.runState := by
  simp [aluD]
@[simp] theorem aluD_irqInhibit (op : AluOp16) (o : Src16) (s : State) : (aluD op o s).irqInhibit = s.irqInhibit := by
  simp [aluD]
@[simp] theorem aluD_xirqHeld (op : AluOp16) (o : Src16) (s : State) : (aluD op o s).xirqHeld = s.xirqHeld := by
  simp [aluD]
@[simp] theorem aluD_memMap (op : AluOp16) (o : Src16) (s : State) : (aluD op o s).memMap = s.memMap := by
  simp [aluD]
@[simp] theorem aluD_irqLines (op : AluOp16) (o : Src16) (s : State) : (aluD op o s).irqLines = s.irqLines := by
  simp [aluD]
@[simp] theorem aluD_testMode (op : AluOp16) (o : Src16) (s : State) : (aluD op o s).testMode = s.testMode := by
  simp [aluD]

@[simp] theorem aluD_ccr (op : AluOp16) (o : Src16) (s : State) :
    (aluD op o s).ccr = op.flags s.d (operand16 o s).1 s.ccr := by
  simp [aluD, State.d]

@[simp] theorem compare16_a (r : Word) (o : Src16) (s : State) : (compare16 r o s).a = s.a := by
  simp [compare16]
@[simp] theorem compare16_b (r : Word) (o : Src16) (s : State) : (compare16 r o s).b = s.b := by
  simp [compare16]
@[simp] theorem compare16_ix (r : Word) (o : Src16) (s : State) : (compare16 r o s).ix = s.ix := by
  simp [compare16]
@[simp] theorem compare16_iy (r : Word) (o : Src16) (s : State) : (compare16 r o s).iy = s.iy := by
  simp [compare16]
@[simp] theorem compare16_sp (r : Word) (o : Src16) (s : State) : (compare16 r o s).sp = s.sp := by
  simp [compare16]
@[simp] theorem compare16_pc (r : Word) (o : Src16) (s : State) : (compare16 r o s).pc = s.pc := by
  simp [compare16]
@[simp] theorem compare16_runState (r : Word) (o : Src16) (s : State) : (compare16 r o s).runState = s.runState := by
  simp [compare16]
@[simp] theorem compare16_irqInhibit (r : Word) (o : Src16) (s : State) : (compare16 r o s).irqInhibit = s.irqInhibit := by
  simp [compare16]
@[simp] theorem compare16_xirqHeld (r : Word) (o : Src16) (s : State) : (compare16 r o s).xirqHeld = s.xirqHeld := by
  simp [compare16]
@[simp] theorem compare16_memMap (r : Word) (o : Src16) (s : State) : (compare16 r o s).memMap = s.memMap := by
  simp [compare16]
@[simp] theorem compare16_irqLines (r : Word) (o : Src16) (s : State) : (compare16 r o s).irqLines = s.irqLines := by
  simp [compare16]
@[simp] theorem compare16_testMode (r : Word) (o : Src16) (s : State) : (compare16 r o s).testMode = s.testMode := by
  simp [compare16]

@[simp] theorem compare16_ccr (r : Word) (o : Src16) (s : State) :
    (compare16 r o s).ccr = subFlags16 r (operand16 o s).1 s.ccr := by
  simp [compare16]

@[simp] theorem modify_a (op : UnaryOp) (o : Addr) (s : State) : (Machine.modify op o s).a = s.a := by
  simp [Machine.modify]
@[simp] theorem modify_b (op : UnaryOp) (o : Addr) (s : State) : (Machine.modify op o s).b = s.b := by
  simp [Machine.modify]
@[simp] theorem modify_ix (op : UnaryOp) (o : Addr) (s : State) : (Machine.modify op o s).ix = s.ix := by
  simp [Machine.modify]
@[simp] theorem modify_iy (op : UnaryOp) (o : Addr) (s : State) : (Machine.modify op o s).iy = s.iy := by
  simp [Machine.modify]
@[simp] theorem modify_sp (op : UnaryOp) (o : Addr) (s : State) : (Machine.modify op o s).sp = s.sp := by
  simp [Machine.modify]
@[simp] theorem modify_pc (op : UnaryOp) (o : Addr) (s : State) : (Machine.modify op o s).pc = s.pc := by
  simp [Machine.modify]
@[simp] theorem modify_runState (op : UnaryOp) (o : Addr) (s : State) : (Machine.modify op o s).runState = s.runState := by
  simp [Machine.modify]
@[simp] theorem modify_irqInhibit (op : UnaryOp) (o : Addr) (s : State) : (Machine.modify op o s).irqInhibit = s.irqInhibit := by
  simp [Machine.modify]
@[simp] theorem modify_xirqHeld (op : UnaryOp) (o : Addr) (s : State) : (Machine.modify op o s).xirqHeld = s.xirqHeld := by
  simp [Machine.modify]
@[simp] theorem modify_memMap (op : UnaryOp) (o : Addr) (s : State) : (Machine.modify op o s).memMap = s.memMap := by
  simp [Machine.modify]
@[simp] theorem modify_irqLines (op : UnaryOp) (o : Addr) (s : State) : (Machine.modify op o s).irqLines = s.irqLines := by
  simp [Machine.modify]
@[simp] theorem modify_testMode (op : UnaryOp) (o : Addr) (s : State) : (Machine.modify op o s).testMode = s.testMode := by
  simp [Machine.modify]

@[simp] theorem modify_ccr (op : UnaryOp) (o : Addr) (s : State) :
    (Machine.modify op o s).ccr = op.flags (readByte (ea o s) s).1 s.ccr := by
  simp [Machine.modify]

@[simp] theorem modifyA_b (op : UnaryOp) (s : State) : (modifyA op s).b = s.b := by
  simp [modifyA]
@[simp] theorem modifyA_ix (op : UnaryOp) (s : State) : (modifyA op s).ix = s.ix := by
  simp [modifyA]
@[simp] theorem modifyA_iy (op : UnaryOp) (s : State) : (modifyA op s).iy = s.iy := by
  simp [modifyA]
@[simp] theorem modifyA_sp (op : UnaryOp) (s : State) : (modifyA op s).sp = s.sp := by
  simp [modifyA]
@[simp] theorem modifyA_pc (op : UnaryOp) (s : State) : (modifyA op s).pc = s.pc := by
  simp [modifyA]
@[simp] theorem modifyA_runState (op : UnaryOp) (s : State) : (modifyA op s).runState = s.runState := by
  simp [modifyA]
@[simp] theorem modifyA_pending (op : UnaryOp) (s : State) : (modifyA op s).pending = s.pending := by
  simp [modifyA]
@[simp] theorem modifyA_irqInhibit (op : UnaryOp) (s : State) : (modifyA op s).irqInhibit = s.irqInhibit := by
  simp [modifyA]
@[simp] theorem modifyA_xirqHeld (op : UnaryOp) (s : State) : (modifyA op s).xirqHeld = s.xirqHeld := by
  simp [modifyA]
@[simp] theorem modifyA_resets (op : UnaryOp) (s : State) : (modifyA op s).resets = s.resets := by
  simp [modifyA]
@[simp] theorem modifyA_mem (op : UnaryOp) (s : State) : (modifyA op s).mem = s.mem := by
  simp [modifyA]
@[simp] theorem modifyA_memMap (op : UnaryOp) (s : State) : (modifyA op s).memMap = s.memMap := by
  simp [modifyA]
@[simp] theorem modifyA_irqLines (op : UnaryOp) (s : State) : (modifyA op s).irqLines = s.irqLines := by
  simp [modifyA]
@[simp] theorem modifyA_testMode (op : UnaryOp) (s : State) : (modifyA op s).testMode = s.testMode := by
  simp [modifyA]
@[simp] theorem modifyA_device (op : UnaryOp) (s : State) : (modifyA op s).device = s.device := by
  simp [modifyA]
@[simp] theorem modifyA_draws (op : UnaryOp) (s : State) : (modifyA op s).draws = s.draws := by
  simp [modifyA]

@[simp] theorem modifyA_a (op : UnaryOp) (s : State) :
    (modifyA op s).a = op.result s.a s.ccr := by
  simp [modifyA]
@[simp] theorem modifyA_ccr (op : UnaryOp) (s : State) :
    (modifyA op s).ccr = op.flags s.a s.ccr := by
  simp [modifyA]

@[simp] theorem modifyB_a (op : UnaryOp) (s : State) : (modifyB op s).a = s.a := by
  simp [modifyB]
@[simp] theorem modifyB_ix (op : UnaryOp) (s : State) : (modifyB op s).ix = s.ix := by
  simp [modifyB]
@[simp] theorem modifyB_iy (op : UnaryOp) (s : State) : (modifyB op s).iy = s.iy := by
  simp [modifyB]
@[simp] theorem modifyB_sp (op : UnaryOp) (s : State) : (modifyB op s).sp = s.sp := by
  simp [modifyB]
@[simp] theorem modifyB_pc (op : UnaryOp) (s : State) : (modifyB op s).pc = s.pc := by
  simp [modifyB]
@[simp] theorem modifyB_runState (op : UnaryOp) (s : State) : (modifyB op s).runState = s.runState := by
  simp [modifyB]
@[simp] theorem modifyB_pending (op : UnaryOp) (s : State) : (modifyB op s).pending = s.pending := by
  simp [modifyB]
@[simp] theorem modifyB_irqInhibit (op : UnaryOp) (s : State) : (modifyB op s).irqInhibit = s.irqInhibit := by
  simp [modifyB]
@[simp] theorem modifyB_xirqHeld (op : UnaryOp) (s : State) : (modifyB op s).xirqHeld = s.xirqHeld := by
  simp [modifyB]
@[simp] theorem modifyB_resets (op : UnaryOp) (s : State) : (modifyB op s).resets = s.resets := by
  simp [modifyB]
@[simp] theorem modifyB_mem (op : UnaryOp) (s : State) : (modifyB op s).mem = s.mem := by
  simp [modifyB]
@[simp] theorem modifyB_memMap (op : UnaryOp) (s : State) : (modifyB op s).memMap = s.memMap := by
  simp [modifyB]
@[simp] theorem modifyB_irqLines (op : UnaryOp) (s : State) : (modifyB op s).irqLines = s.irqLines := by
  simp [modifyB]
@[simp] theorem modifyB_testMode (op : UnaryOp) (s : State) : (modifyB op s).testMode = s.testMode := by
  simp [modifyB]
@[simp] theorem modifyB_device (op : UnaryOp) (s : State) : (modifyB op s).device = s.device := by
  simp [modifyB]
@[simp] theorem modifyB_draws (op : UnaryOp) (s : State) : (modifyB op s).draws = s.draws := by
  simp [modifyB]

@[simp] theorem modifyB_b (op : UnaryOp) (s : State) :
    (modifyB op s).b = op.result s.b s.ccr := by
  simp [modifyB]
@[simp] theorem modifyB_ccr (op : UnaryOp) (s : State) :
    (modifyB op s).ccr = op.flags s.b s.ccr := by
  simp [modifyB]

@[simp] theorem store8_a (v : Byte) (o : Addr) (s : State) : (store8 v o s).a = s.a := by
  simp [store8]
@[simp] theorem store8_b (v : Byte) (o : Addr) (s : State) : (store8 v o s).b = s.b := by
  simp [store8]
@[simp] theorem store8_ix (v : Byte) (o : Addr) (s : State) : (store8 v o s).ix = s.ix := by
  simp [store8]
@[simp] theorem store8_iy (v : Byte) (o : Addr) (s : State) : (store8 v o s).iy = s.iy := by
  simp [store8]
@[simp] theorem store8_sp (v : Byte) (o : Addr) (s : State) : (store8 v o s).sp = s.sp := by
  simp [store8]
@[simp] theorem store8_pc (v : Byte) (o : Addr) (s : State) : (store8 v o s).pc = s.pc := by
  simp [store8]
@[simp] theorem store8_runState (v : Byte) (o : Addr) (s : State) : (store8 v o s).runState = s.runState := by
  simp [store8]
@[simp] theorem store8_irqInhibit (v : Byte) (o : Addr) (s : State) : (store8 v o s).irqInhibit = s.irqInhibit := by
  simp [store8]
@[simp] theorem store8_xirqHeld (v : Byte) (o : Addr) (s : State) : (store8 v o s).xirqHeld = s.xirqHeld := by
  simp [store8]
@[simp] theorem store8_memMap (v : Byte) (o : Addr) (s : State) : (store8 v o s).memMap = s.memMap := by
  simp [store8]
@[simp] theorem store8_irqLines (v : Byte) (o : Addr) (s : State) : (store8 v o s).irqLines = s.irqLines := by
  simp [store8]
@[simp] theorem store8_testMode (v : Byte) (o : Addr) (s : State) : (store8 v o s).testMode = s.testMode := by
  simp [store8]

@[simp] theorem store8_ccr (v : Byte) (o : Addr) (s : State) :
    (store8 v o s).ccr = logic8 v s.ccr := by
  simp [store8]

@[simp] theorem store16_a (v : Word) (o : Addr) (s : State) : (store16 v o s).a = s.a := by
  simp [store16]
@[simp] theorem store16_b (v : Word) (o : Addr) (s : State) : (store16 v o s).b = s.b := by
  simp [store16]
@[simp] theorem store16_ix (v : Word) (o : Addr) (s : State) : (store16 v o s).ix = s.ix := by
  simp [store16]
@[simp] theorem store16_iy (v : Word) (o : Addr) (s : State) : (store16 v o s).iy = s.iy := by
  simp [store16]
@[simp] theorem store16_sp (v : Word) (o : Addr) (s : State) : (store16 v o s).sp = s.sp := by
  simp [store16]
@[simp] theorem store16_pc (v : Word) (o : Addr) (s : State) : (store16 v o s).pc = s.pc := by
  simp [store16]
@[simp] theorem store16_runState (v : Word) (o : Addr) (s : State) : (store16 v o s).runState = s.runState := by
  simp [store16]
@[simp] theorem store16_irqInhibit (v : Word) (o : Addr) (s : State) : (store16 v o s).irqInhibit = s.irqInhibit := by
  simp [store16]
@[simp] theorem store16_xirqHeld (v : Word) (o : Addr) (s : State) : (store16 v o s).xirqHeld = s.xirqHeld := by
  simp [store16]
@[simp] theorem store16_memMap (v : Word) (o : Addr) (s : State) : (store16 v o s).memMap = s.memMap := by
  simp [store16]
@[simp] theorem store16_irqLines (v : Word) (o : Addr) (s : State) : (store16 v o s).irqLines = s.irqLines := by
  simp [store16]
@[simp] theorem store16_testMode (v : Word) (o : Addr) (s : State) : (store16 v o s).testMode = s.testMode := by
  simp [store16]

@[simp] theorem store16_ccr (v : Word) (o : Addr) (s : State) :
    (store16 v o s).ccr = logic16 v s.ccr := by
  simp [store16]

@[simp] theorem testByte_a (o : Addr) (s : State) : (testByte o s).a = s.a := by
  simp [testByte]
@[simp] theorem testByte_b (o : Addr) (s : State) : (testByte o s).b = s.b := by
  simp [testByte]
@[simp] theorem testByte_ix (o : Addr) (s : State) : (testByte o s).ix = s.ix := by
  simp [testByte]
@[simp] theorem testByte_iy (o : Addr) (s : State) : (testByte o s).iy = s.iy := by
  simp [testByte]
@[simp] theorem testByte_sp (o : Addr) (s : State) : (testByte o s).sp = s.sp := by
  simp [testByte]
@[simp] theorem testByte_pc (o : Addr) (s : State) : (testByte o s).pc = s.pc := by
  simp [testByte]
@[simp] theorem testByte_runState (o : Addr) (s : State) : (testByte o s).runState = s.runState := by
  simp [testByte]
@[simp] theorem testByte_irqInhibit (o : Addr) (s : State) : (testByte o s).irqInhibit = s.irqInhibit := by
  simp [testByte]
@[simp] theorem testByte_xirqHeld (o : Addr) (s : State) : (testByte o s).xirqHeld = s.xirqHeld := by
  simp [testByte]
@[simp] theorem testByte_memMap (o : Addr) (s : State) : (testByte o s).memMap = s.memMap := by
  simp [testByte]
@[simp] theorem testByte_irqLines (o : Addr) (s : State) : (testByte o s).irqLines = s.irqLines := by
  simp [testByte]
@[simp] theorem testByte_testMode (o : Addr) (s : State) : (testByte o s).testMode = s.testMode := by
  simp [testByte]

@[simp] theorem testByte_ccr (o : Addr) (s : State) :
    (testByte o s).ccr = tstFlags (readByte (ea o s) s).1 s.ccr := by
  simp [testByte]

@[simp] theorem branchIf_a (t : Bool) (rr : Byte) (s : State) : (branchIf t rr s).a = s.a := by
  unfold branchIf; split <;> simp
@[simp] theorem branchIf_b (t : Bool) (rr : Byte) (s : State) : (branchIf t rr s).b = s.b := by
  unfold branchIf; split <;> simp
@[simp] theorem branchIf_ix (t : Bool) (rr : Byte) (s : State) : (branchIf t rr s).ix = s.ix := by
  unfold branchIf; split <;> simp
@[simp] theorem branchIf_iy (t : Bool) (rr : Byte) (s : State) : (branchIf t rr s).iy = s.iy := by
  unfold branchIf; split <;> simp
@[simp] theorem branchIf_sp (t : Bool) (rr : Byte) (s : State) : (branchIf t rr s).sp = s.sp := by
  unfold branchIf; split <;> simp
@[simp] theorem branchIf_ccr (t : Bool) (rr : Byte) (s : State) : (branchIf t rr s).ccr = s.ccr := by
  unfold branchIf; split <;> simp
@[simp] theorem branchIf_runState (t : Bool) (rr : Byte) (s : State) : (branchIf t rr s).runState = s.runState := by
  unfold branchIf; split <;> simp
@[simp] theorem branchIf_pending (t : Bool) (rr : Byte) (s : State) : (branchIf t rr s).pending = s.pending := by
  unfold branchIf; split <;> simp
@[simp] theorem branchIf_irqInhibit (t : Bool) (rr : Byte) (s : State) : (branchIf t rr s).irqInhibit = s.irqInhibit := by
  unfold branchIf; split <;> simp
@[simp] theorem branchIf_xirqHeld (t : Bool) (rr : Byte) (s : State) : (branchIf t rr s).xirqHeld = s.xirqHeld := by
  unfold branchIf; split <;> simp
@[simp] theorem branchIf_resets (t : Bool) (rr : Byte) (s : State) : (branchIf t rr s).resets = s.resets := by
  unfold branchIf; split <;> simp
@[simp] theorem branchIf_mem (t : Bool) (rr : Byte) (s : State) : (branchIf t rr s).mem = s.mem := by
  unfold branchIf; split <;> simp
@[simp] theorem branchIf_memMap (t : Bool) (rr : Byte) (s : State) : (branchIf t rr s).memMap = s.memMap := by
  unfold branchIf; split <;> simp
@[simp] theorem branchIf_irqLines (t : Bool) (rr : Byte) (s : State) : (branchIf t rr s).irqLines = s.irqLines := by
  unfold branchIf; split <;> simp
@[simp] theorem branchIf_testMode (t : Bool) (rr : Byte) (s : State) : (branchIf t rr s).testMode = s.testMode := by
  unfold branchIf; split <;> simp
@[simp] theorem branchIf_device (t : Bool) (rr : Byte) (s : State) : (branchIf t rr s).device = s.device := by
  unfold branchIf; split <;> simp
@[simp] theorem branchIf_draws (t : Bool) (rr : Byte) (s : State) : (branchIf t rr s).draws = s.draws := by
  unfold branchIf; split <;> simp

@[simp] theorem branchOnBits_a (t : Byte → Bool) (o : BitAddr) (rr : Byte) (s : State) : (branchOnBits t o rr s).a = s.a := by
  simp [branchOnBits]
@[simp] theorem branchOnBits_b (t : Byte → Bool) (o : BitAddr) (rr : Byte) (s : State) : (branchOnBits t o rr s).b = s.b := by
  simp [branchOnBits]
@[simp] theorem branchOnBits_ix (t : Byte → Bool) (o : BitAddr) (rr : Byte) (s : State) : (branchOnBits t o rr s).ix = s.ix := by
  simp [branchOnBits]
@[simp] theorem branchOnBits_iy (t : Byte → Bool) (o : BitAddr) (rr : Byte) (s : State) : (branchOnBits t o rr s).iy = s.iy := by
  simp [branchOnBits]
@[simp] theorem branchOnBits_sp (t : Byte → Bool) (o : BitAddr) (rr : Byte) (s : State) : (branchOnBits t o rr s).sp = s.sp := by
  simp [branchOnBits]
@[simp] theorem branchOnBits_ccr (t : Byte → Bool) (o : BitAddr) (rr : Byte) (s : State) : (branchOnBits t o rr s).ccr = s.ccr := by
  simp [branchOnBits]
@[simp] theorem branchOnBits_runState (t : Byte → Bool) (o : BitAddr) (rr : Byte) (s : State) : (branchOnBits t o rr s).runState = s.runState := by
  simp [branchOnBits]
@[simp] theorem branchOnBits_irqInhibit (t : Byte → Bool) (o : BitAddr) (rr : Byte) (s : State) : (branchOnBits t o rr s).irqInhibit = s.irqInhibit := by
  simp [branchOnBits]
@[simp] theorem branchOnBits_xirqHeld (t : Byte → Bool) (o : BitAddr) (rr : Byte) (s : State) : (branchOnBits t o rr s).xirqHeld = s.xirqHeld := by
  simp [branchOnBits]
@[simp] theorem branchOnBits_memMap (t : Byte → Bool) (o : BitAddr) (rr : Byte) (s : State) : (branchOnBits t o rr s).memMap = s.memMap := by
  simp [branchOnBits]
@[simp] theorem branchOnBits_irqLines (t : Byte → Bool) (o : BitAddr) (rr : Byte) (s : State) : (branchOnBits t o rr s).irqLines = s.irqLines := by
  simp [branchOnBits]
@[simp] theorem branchOnBits_testMode (t : Byte → Bool) (o : BitAddr) (rr : Byte) (s : State) : (branchOnBits t o rr s).testMode = s.testMode := by
  simp [branchOnBits]

theorem operand8_onlyReads (o : Src8) (s : State) : OnlyReads (reads8 o s) s (operand8 o s).2 := by
  cases o with
  | imm _ => exact .refl _ s
  | mem a => exact readByte_onlyReads _ _

theorem operand16_onlyReads (o : Src16) (s : State) : OnlyReads (reads16 o s) s (operand16 o s).2 := by
  cases o with
  | imm _ => exact .refl _ s
  | mem a => exact readWord_onlyReads _ _

theorem aluA_readsUpTo (op : AluOp8) (o : Src8) (s : State) : ReadsUpTo (reads8 o s) s (aluA op o s) :=
  (operand8_onlyReads o s).upTo.update rfl

theorem aluB_readsUpTo (op : AluOp8) (o : Src8) (s : State) : ReadsUpTo (reads8 o s) s (aluB op o s) :=
  (operand8_onlyReads o s).upTo.update rfl

theorem aluD_readsUpTo (op : AluOp16) (o : Src16) (s : State) : ReadsUpTo (reads16 o s) s (aluD op o s) :=
  (operand16_onlyReads o s).upTo.update rfl

theorem testA_readsUpTo (op : AluOp8) (o : Src8) (s : State) : ReadsUpTo (reads8 o s) s (testA op o s) :=
  (operand8_onlyReads o s).upTo.update rfl

theorem testB_readsUpTo (op : AluOp8) (o : Src8) (s : State) : ReadsUpTo (reads8 o s) s (testB op o s) :=
  (operand8_onlyReads o s).upTo.update rfl

theorem compare16_readsUpTo (r : Word) (o : Src16) (s : State) : ReadsUpTo (reads16 o s) s (compare16 r o s) :=
  (operand16_onlyReads o s).upTo.update rfl

/-- `set` is a register's update. -/
theorem load16_readsUpTo {set : State → Word → State} (h : ∀ t v, set t v = t.withRegisters (set t v)) (o : Src16)
    (s : State) : ReadsUpTo (reads16 o s) s (load16 set o s) :=
  ((operand16_onlyReads o s).upTo.update (h _ _)).update rfl

theorem testByte_readsUpTo (o : Addr) (s : State) : ReadsUpTo [ea o s] s (testByte o s) :=
  (readByte_onlyReads _ s).upTo.update rfl

theorem branchOnBits_readsUpTo (test : Byte → Bool) (o : BitAddr) (rr : Byte) (s : State) :
    ReadsUpTo [ea (bitAddr o) s] s (branchOnBits test o rr s) :=
  (readByte_onlyReads _ s).upTo.update (by unfold branchOnBits branchIf; dsimp only; split <;> rfl)

theorem aluAB_accessed (op : AluOp8) (s : State) : Accessed s (aluAB op s) := (Accessed.refl s).update rfl

theorem modifyA_accessed (op : UnaryOp) (s : State) : Accessed s (modifyA op s) := (Accessed.refl s).update rfl

theorem modifyB_accessed (op : UnaryOp) (s : State) : Accessed s (modifyB op s) := (Accessed.refl s).update rfl

theorem branchIf_accessed (taken : Bool) (rr : Byte) (s : State) : Accessed s (branchIf taken rr s) := by
  cases taken with
  | true => exact (Accessed.refl s).setPC _
  | false => exact .refl s

theorem modify_accessed (op : UnaryOp) (o : Addr) (s : State) : Accessed s (modify op o s) :=
  ((readByte_onlyReads (ea o s) s).upTo.update (u := (readByte (ea o s) s).2.setCcr _) rfl).accessed.trans
    (writeByte_onlyAccess _ _ _).accessed

theorem store8_accessed (v : Byte) (o : Addr) (s : State) : Accessed s (store8 v o s) :=
  (writeByte_onlyAccess (ea o s) v (s.setCcr (logic8 v s.ccr))).accessed

theorem store16_accessed (v : Word) (o : Addr) (s : State) : Accessed s (store16 v o s) :=
  (writeWord_onlyAccess (ea o s) v (s.setCcr (logic16 v s.ccr))).accessed

/-- A read-modify-write off the devices stores one byte and nothing else. -/
theorem modify_storesOnly {s : State} (h : s.mem.wf = true) (op : UnaryOp) (o : Addr) :
    StoresOnly [ea o s] [(ea o s, op.result (readByte (ea o s) s).1 s.ccr)] s (modify op o s) := by
  intro n
  have e := (readByte_onlyReads (ea o s) s).plain n
  have w := writeByte_storesOnly (s := (readByte (ea o s) s).2.setCcr (op.flags (readByte (ea o s) s).1 s.ccr))
    (readByte_wf h _) (ea o s) (op.result (readByte (ea o s) s).1 s.ccr)
  unfold modify
  dsimp only
  rw [readByte_ccr]
  refine w.of_eq (s := s) ?_ ?_ ?_ ?_ ?_ n
  · rw [State.setCcr_mem, e]
  · rw [State.setCcr_memMap, e]
  · rw [State.setCcr_pending, e]
  · rw [State.setCcr_resets, e]
  · rw [State.setCcr_device, e]

theorem store8_storesOnly {s : State} (h : s.mem.wf = true) (v : Byte) (o : Addr) :
    StoresOnly [ea o s] [(ea o s, v)] s (store8 v o s) :=
  writeByte_storesOnly (s := s.setCcr (logic8 v s.ccr)) h _ _

theorem store16_storesOnly {s : State} (h : s.mem.wf = true) (v : Word) (o : Addr) :
    StoresOnly [ea o s, ea o s + 1#16] [(ea o s, hi v), (ea o s + 1#16, lo v)] s (store16 v o s) :=
  writeWord_storesOnly (s := s.setCcr (logic16 v s.ccr)) h _ _

end Sys2Proof.Machine
end

