-- ==== Sys2Proof/Laws/PerInstr.lean ====
section
/-! SUPPORT. What holds of every instruction, constructor by constructor: the length of its encoding
(30_encoding.md R102: an optional prebyte, an opcode, operand bytes). -/

namespace Sys2Proof.Laws

/-- The encoding of an instruction has one to five bytes (30_encoding.md R102 to R109). -/
def EncodedLength.Statement (i : Instr) : Prop := 1 ≤ (encode i).length ∧ (encode i).length ≤ 5

/-- The opcode bytes of a form: one, or a prebyte and one. -/
def EncodedLength.Opcode (bs : List Byte) : Prop := 1 ≤ bs.length ∧ bs.length ≤ 2

theorem EncodedLength.one (b : Byte) : EncodedLength.Opcode [b] := ⟨Nat.le_refl _, Nat.le_succ _⟩

theorem EncodedLength.two (b c : Byte) : EncodedLength.Opcode [b, c] := ⟨Nat.le_succ _, Nat.le_refl _⟩

theorem EncodedLength.ofAddr {i : Instr} {o : Addr} {p q r t : List Byte} (h : encode i = encAddr o p q r t)
    (hp : EncodedLength.Opcode p) (hq : EncodedLength.Opcode q) (hr : EncodedLength.Opcode r)
    (ht : EncodedLength.Opcode t) : EncodedLength.Statement i := by
  unfold EncodedLength.Statement EncodedLength.Opcode at *
  rw [h]
  cases o <;> simp only [encAddr, encWord, List.length_append, List.length_cons, List.length_nil] <;> omega

theorem EncodedLength.ofSrc8 {i : Instr} {o : Src8} {m p q r t : List Byte} (h : encode i = encSrc8 o m p q r t)
    (hm : EncodedLength.Opcode m) (hp : EncodedLength.Opcode p) (hq : EncodedLength.Opcode q)
    (hr : EncodedLength.Opcode r) (ht : EncodedLength.Opcode t) : EncodedLength.Statement i := by
  unfold EncodedLength.Statement
  rw [h]
  rcases o with _ | a
  · unfold EncodedLength.Opcode at *
    simp only [encSrc8, List.length_append, List.length_cons, List.length_nil]
    omega
  · unfold EncodedLength.Opcode at *
    cases a <;> simp only [encSrc8, encAddr, encWord, List.length_append, List.length_cons, List.length_nil] <;>
      omega

theorem EncodedLength.ofSrc16 {i : Instr} {o : Src16} {m p q r t : List Byte} (h : encode i = encSrc16 o m p q r t)
    (hm : EncodedLength.Opcode m) (hp : EncodedLength.Opcode p) (hq : EncodedLength.Opcode q)
    (hr : EncodedLength.Opcode r) (ht : EncodedLength.Opcode t) : EncodedLength.Statement i := by
  unfold EncodedLength.Statement
  rw [h]
  rcases o with _ | a
  · unfold EncodedLength.Opcode at *
    simp only [encSrc16, encWord, List.length_append, List.length_cons, List.length_nil]
    omega
  · unfold EncodedLength.Opcode at *
    cases a <;> simp only [encSrc16, encAddr, encWord, List.length_append, List.length_cons, List.length_nil] <;>
      omega

theorem EncodedLength.ofRmw {i : Instr} {o : RmwAddr} {q r t : List Byte} (h : encode i = encRmw o q r t)
    (hq : EncodedLength.Opcode q) (hr : EncodedLength.Opcode r) (ht : EncodedLength.Opcode t) :
    EncodedLength.Statement i := by
  unfold EncodedLength.Statement EncodedLength.Opcode at *
  rw [h]
  cases o <;> simp only [encRmw, encWord, List.length_append, List.length_cons, List.length_nil] <;> omega

/-- The bit instructions, with one or two bytes after the address byte. -/
theorem EncodedLength.ofBit {i : Instr} {o : BitAddr} {p r t more : List Byte}
    (h : encode i = encBit o p r t ++ more) (hp : EncodedLength.Opcode p) (hr : EncodedLength.Opcode r)
    (ht : EncodedLength.Opcode t) (hm : more.length ≤ 2) : EncodedLength.Statement i := by
  unfold EncodedLength.Statement EncodedLength.Opcode at *
  rw [h]
  cases o <;> simp only [encBit, List.length_append, List.length_cons, List.length_nil] <;> omega

theorem EncodedLength.ofRel {i : Instr} {op rr : Byte} (h : encode i = [op, rr]) : EncodedLength.Statement i := by
  unfold EncodedLength.Statement
  rw [h]
  exact ⟨Nat.le_succ _, Nat.le_add_left 2 3⟩

theorem EncodedLength.ofInherent {i : Instr} {bs : List Byte} (h : encode i = bs) (hb : EncodedLength.Opcode bs) :
    EncodedLength.Statement i := by
  unfold EncodedLength.Statement EncodedLength.Opcode at *
  rw [h]
  omega

theorem EncodedLength.aba : EncodedLength.Statement .aba :=
  EncodedLength.ofInherent rfl (EncodedLength.one _)

theorem EncodedLength.abx : EncodedLength.Statement .abx :=
  EncodedLength.ofInherent rfl (EncodedLength.one _)

theorem EncodedLength.aby : EncodedLength.Statement .aby :=
  EncodedLength.ofInherent rfl (EncodedLength.two _ _)

theorem EncodedLength.adca (o : Src8) : EncodedLength.Statement (.adca o) :=
  EncodedLength.ofSrc8 rfl (EncodedLength.one _) (EncodedLength.one _) (EncodedLength.one _)
    (EncodedLength.one _) (EncodedLength.two _ _)

theorem EncodedLength.adcb (o : Src8) : EncodedLength.Statement (.adcb o) :=
  EncodedLength.ofSrc8 rfl (EncodedLength.one _) (EncodedLength.one _) (EncodedLength.one _)
    (EncodedLength.one _) (EncodedLength.two _ _)

theorem EncodedLength.adda (o : Src8) : EncodedLength.Statement (.adda o) :=
  EncodedLength.ofSrc8 rfl (EncodedLength.one _) (EncodedLength.one _) (EncodedLength.one _)
    (EncodedLength.one _) (EncodedLength.two _ _)

theorem EncodedLength.addb (o : Src8) : EncodedLength.Statement (.addb o) :=
  EncodedLength.ofSrc8 rfl (EncodedLength.one _) (EncodedLength.one _) (EncodedLength.one _)
    (EncodedLength.one _) (EncodedLength.two _ _)

theorem EncodedLength.addd (o : Src16) : EncodedLength.Statement (.addd o) :=
  EncodedLength.ofSrc16 rfl (EncodedLength.one _) (EncodedLength.one _) (EncodedLength.one _)
    (EncodedLength.one _) (EncodedLength.two _ _)

theorem EncodedLength.daa : EncodedLength.Statement .daa :=
  EncodedLength.ofInherent rfl (EncodedLength.one _)

theorem EncodedLength.sba : EncodedLength.Statement .sba :=
  EncodedLength.ofInherent rfl (EncodedLength.one _)

theorem EncodedLength.sbca (o : Src8) : EncodedLength.Statement (.sbca o) :=
  EncodedLength.ofSrc8 rfl (EncodedLength.one _) (EncodedLength.one _) (EncodedLength.one _)
    (EncodedLength.one _) (EncodedLength.two _ _)

theorem EncodedLength.sbcb (o : Src8) : EncodedLength.Statement (.sbcb o) :=
  EncodedLength.ofSrc8 rfl (EncodedLength.one _) (EncodedLength.one _) (EncodedLength.one _)
    (EncodedLength.one _) (EncodedLength.two _ _)

theorem EncodedLength.suba (o : Src8) : EncodedLength.Statement (.suba o) :=
  EncodedLength.ofSrc8 rfl (EncodedLength.one _) (EncodedLength.one _) (EncodedLength.one _)
    (EncodedLength.one _) (EncodedLength.two _ _)

theorem EncodedLength.subb (o : Src8) : EncodedLength.Statement (.subb o) :=
  EncodedLength.ofSrc8 rfl (EncodedLength.one _) (EncodedLength.one _) (EncodedLength.one _)
    (EncodedLength.one _) (EncodedLength.two _ _)

theorem EncodedLength.subd (o : Src16) : EncodedLength.Statement (.subd o) :=
  EncodedLength.ofSrc16 rfl (EncodedLength.one _) (EncodedLength.one _) (EncodedLength.one _)
    (EncodedLength.one _) (EncodedLength.two _ _)

theorem EncodedLength.mul : EncodedLength.Statement .mul :=
  EncodedLength.ofInherent rfl (EncodedLength.one _)

theorem EncodedLength.fdiv : EncodedLength.Statement .fdiv :=
  EncodedLength.ofInherent rfl (EncodedLength.one _)

theorem EncodedLength.idiv : EncodedLength.Statement .idiv :=
  EncodedLength.ofInherent rfl (EncodedLength.one _)

theorem EncodedLength.asl (o : RmwAddr) : EncodedLength.Statement (.asl o) :=
  EncodedLength.ofRmw rfl (EncodedLength.one _) (EncodedLength.one _) (EncodedLength.two _ _)

theorem EncodedLength.asla : EncodedLength.Statement .asla :=
  EncodedLength.ofInherent rfl (EncodedLength.one _)

theorem EncodedLength.aslb : EncodedLength.Statement .aslb :=
  EncodedLength.ofInherent rfl (EncodedLength.one _)

theorem EncodedLength.asld : EncodedLength.Statement .asld :=
  EncodedLength.ofInherent rfl (EncodedLength.one _)

theorem EncodedLength.asr (o : RmwAddr) : EncodedLength.Statement (.asr o) :=
  EncodedLength.ofRmw rfl (EncodedLength.one _) (EncodedLength.one _) (EncodedLength.two _ _)

theorem EncodedLength.asra : EncodedLength.Statement .asra :=
  EncodedLength.ofInherent rfl (EncodedLength.one _)

theorem EncodedLength.asrb : EncodedLength.Statement .asrb :=
  EncodedLength.ofInherent rfl (EncodedLength.one _)

theorem EncodedLength.lsl (o : RmwAddr) : EncodedLength.Statement (.lsl o) :=
  EncodedLength.ofRmw rfl (EncodedLength.one _) (EncodedLength.one _) (EncodedLength.two _ _)

theorem EncodedLength.lsla : EncodedLength.Statement .lsla :=
  EncodedLength.ofInherent rfl (EncodedLength.one _)

theorem EncodedLength.lslb : EncodedLength.Statement .lslb :=
  EncodedLength.ofInherent rfl (EncodedLength.one _)

theorem EncodedLength.lsld : EncodedLength.Statement .lsld :=
  EncodedLength.ofInherent rfl (EncodedLength.one _)

theorem EncodedLength.lsr (o : RmwAddr) : EncodedLength.Statement (.lsr o) :=
  EncodedLength.ofRmw rfl (EncodedLength.one _) (EncodedLength.one _) (EncodedLength.two _ _)

theorem EncodedLength.lsra : EncodedLength.Statement .lsra :=
  EncodedLength.ofInherent rfl (EncodedLength.one _)

theorem EncodedLength.lsrb : EncodedLength.Statement .lsrb :=
  EncodedLength.ofInherent rfl (EncodedLength.one _)

theorem EncodedLength.lsrd : EncodedLength.Statement .lsrd :=
  EncodedLength.ofInherent rfl (EncodedLength.one _)

theorem EncodedLength.rol (o : RmwAddr) : EncodedLength.Statement (.rol o) :=
  EncodedLength.ofRmw rfl (EncodedLength.one _) (EncodedLength.one _) (EncodedLength.two _ _)

theorem EncodedLength.rola : EncodedLength.Statement .rola :=
  EncodedLength.ofInherent rfl (EncodedLength.one _)

theorem EncodedLength.rolb : EncodedLength.Statement .rolb :=
  EncodedLength.ofInherent rfl (EncodedLength.one _)

theorem EncodedLength.ror (o : RmwAddr) : EncodedLength.Statement (.ror o) :=
  EncodedLength.ofRmw rfl (EncodedLength.one _) (EncodedLength.one _) (EncodedLength.two _ _)

theorem EncodedLength.rora : EncodedLength.Statement .rora :=
  EncodedLength.ofInherent rfl (EncodedLength.one _)

theorem EncodedLength.rorb : EncodedLength.Statement .rorb :=
  EncodedLength.ofInherent rfl (EncodedLength.one _)

theorem EncodedLength.anda (o : Src8) : EncodedLength.Statement (.anda o) :=
  EncodedLength.ofSrc8 rfl (EncodedLength.one _) (EncodedLength.one _) (EncodedLength.one _)
    (EncodedLength.one _) (EncodedLength.two _ _)

theorem EncodedLength.andb (o : Src8) : EncodedLength.Statement (.andb o) :=
  EncodedLength.ofSrc8 rfl (EncodedLength.one _) (EncodedLength.one _) (EncodedLength.one _)
    (EncodedLength.one _) (EncodedLength.two _ _)

theorem EncodedLength.eora (o : Src8) : EncodedLength.Statement (.eora o) :=
  EncodedLength.ofSrc8 rfl (EncodedLength.one _) (EncodedLength.one _) (EncodedLength.one _)
    (EncodedLength.one _) (EncodedLength.two _ _)

theorem EncodedLength.eorb (o : Src8) : EncodedLength.Statement (.eorb o) :=
  EncodedLength.ofSrc8 rfl (EncodedLength.one _) (EncodedLength.one _) (EncodedLength.one _)
    (EncodedLength.one _) (EncodedLength.two _ _)

theorem EncodedLength.oraa (o : Src8) : EncodedLength.Statement (.oraa o) :=
  EncodedLength.ofSrc8 rfl (EncodedLength.one _) (EncodedLength.one _) (EncodedLength.one _)
    (EncodedLength.one _) (EncodedLength.two _ _)

theorem EncodedLength.orab (o : Src8) : EncodedLength.Statement (.orab o) :=
  EncodedLength.ofSrc8 rfl (EncodedLength.one _) (EncodedLength.one _) (EncodedLength.one _)
    (EncodedLength.one _) (EncodedLength.two _ _)

theorem EncodedLength.com (o : RmwAddr) : EncodedLength.Statement (.com o) :=
  EncodedLength.ofRmw rfl (EncodedLength.one _) (EncodedLength.one _) (EncodedLength.two _ _)

theorem EncodedLength.coma : EncodedLength.Statement .coma :=
  EncodedLength.ofInherent rfl (EncodedLength.one _)

theorem EncodedLength.comb : EncodedLength.Statement .comb :=
  EncodedLength.ofInherent rfl (EncodedLength.one _)

theorem EncodedLength.neg (o : RmwAddr) : EncodedLength.Statement (.neg o) :=
  EncodedLength.ofRmw rfl (EncodedLength.one _) (EncodedLength.one _) (EncodedLength.two _ _)

theorem EncodedLength.nega : EncodedLength.Statement .nega :=
  EncodedLength.ofInherent rfl (EncodedLength.one _)

theorem EncodedLength.negb : EncodedLength.Statement .negb :=
  EncodedLength.ofInherent rfl (EncodedLength.one _)

theorem EncodedLength.dec (o : RmwAddr) : EncodedLength.Statement (.dec o) :=
  EncodedLength.ofRmw rfl (EncodedLength.one _) (EncodedLength.one _) (EncodedLength.two _ _)

theorem EncodedLength.deca : EncodedLength.Statement .deca :=
  EncodedLength.ofInherent rfl (EncodedLength.one _)

theorem EncodedLength.decb : EncodedLength.Statement .decb :=
  EncodedLength.ofInherent rfl (EncodedLength.one _)

theorem EncodedLength.des : EncodedLength.Statement .des :=
  EncodedLength.ofInherent rfl (EncodedLength.one _)

theorem EncodedLength.dex : EncodedLength.Statement .dex :=
  EncodedLength.ofInherent rfl (EncodedLength.one _)

theorem EncodedLength.dey : EncodedLength.Statement .dey :=
  EncodedLength.ofInherent rfl (EncodedLength.two _ _)

theorem EncodedLength.inc (o : RmwAddr) : EncodedLength.Statement (.inc o) :=
  EncodedLength.ofRmw rfl (EncodedLength.one _) (EncodedLength.one _) (EncodedLength.two _ _)

theorem EncodedLength.inca : EncodedLength.Statement .inca :=
  EncodedLength.ofInherent rfl (EncodedLength.one _)

theorem EncodedLength.incb : EncodedLength.Statement .incb :=
  EncodedLength.ofInherent rfl (EncodedLength.one _)

theorem EncodedLength.ins : EncodedLength.Statement .ins :=
  EncodedLength.ofInherent rfl (EncodedLength.one _)

theorem EncodedLength.inx : EncodedLength.Statement .inx :=
  EncodedLength.ofInherent rfl (EncodedLength.one _)

theorem EncodedLength.iny : EncodedLength.Statement .iny :=
  EncodedLength.ofInherent rfl (EncodedLength.two _ _)

theorem EncodedLength.nop : EncodedLength.Statement .nop :=
  EncodedLength.ofInherent rfl (EncodedLength.one _)

theorem EncodedLength.clr (o : RmwAddr) : EncodedLength.Statement (.clr o) :=
  EncodedLength.ofRmw rfl (EncodedLength.one _) (EncodedLength.one _) (EncodedLength.two _ _)

theorem EncodedLength.clra : EncodedLength.Statement .clra :=
  EncodedLength.ofInherent rfl (EncodedLength.one _)

theorem EncodedLength.clrb : EncodedLength.Statement .clrb :=
  EncodedLength.ofInherent rfl (EncodedLength.one _)

theorem EncodedLength.bclr (o : BitAddr) (mm : Byte) : EncodedLength.Statement (.bclr o mm) :=
  EncodedLength.ofBit rfl (EncodedLength.one _) (EncodedLength.one _) (EncodedLength.two _ _) (Nat.le_succ _)

theorem EncodedLength.bset (o : BitAddr) (mm : Byte) : EncodedLength.Statement (.bset o mm) :=
  EncodedLength.ofBit rfl (EncodedLength.one _) (EncodedLength.one _) (EncodedLength.two _ _) (Nat.le_succ _)

theorem EncodedLength.clc : EncodedLength.Statement .clc :=
  EncodedLength.ofInherent rfl (EncodedLength.one _)

theorem EncodedLength.cli : EncodedLength.Statement .cli :=
  EncodedLength.ofInherent rfl (EncodedLength.one _)

theorem EncodedLength.clv : EncodedLength.Statement .clv :=
  EncodedLength.ofInherent rfl (EncodedLength.one _)

theorem EncodedLength.sec : EncodedLength.Statement .sec :=
  EncodedLength.ofInherent rfl (EncodedLength.one _)

theorem EncodedLength.sei : EncodedLength.Statement .sei :=
  EncodedLength.ofInherent rfl (EncodedLength.one _)

theorem EncodedLength.sev : EncodedLength.Statement .sev :=
  EncodedLength.ofInherent rfl (EncodedLength.one _)

theorem EncodedLength.ldaa (o : Src8) : EncodedLength.Statement (.ldaa o) :=
  EncodedLength.ofSrc8 rfl (EncodedLength.one _) (EncodedLength.one _) (EncodedLength.one _)
    (EncodedLength.one _) (EncodedLength.two _ _)

theorem EncodedLength.ldab (o : Src8) : EncodedLength.Statement (.ldab o) :=
  EncodedLength.ofSrc8 rfl (EncodedLength.one _) (EncodedLength.one _) (EncodedLength.one _)
    (EncodedLength.one _) (EncodedLength.two _ _)

theorem EncodedLength.ldd (o : Src16) : EncodedLength.Statement (.ldd o) :=
  EncodedLength.ofSrc16 rfl (EncodedLength.one _) (EncodedLength.one _) (EncodedLength.one _)
    (EncodedLength.one _) (EncodedLength.two _ _)

theorem EncodedLength.lds (o : Src16) : EncodedLength.Statement (.lds o) :=
  EncodedLength.ofSrc16 rfl (EncodedLength.one _) (EncodedLength.one _) (EncodedLength.one _)
    (EncodedLength.one _) (EncodedLength.two _ _)

theorem EncodedLength.ldx (o : Src16) : EncodedLength.Statement (.ldx o) :=
  EncodedLength.ofSrc16 rfl (EncodedLength.one _) (EncodedLength.one _) (EncodedLength.one _)
    (EncodedLength.one _) (EncodedLength.two _ _)

theorem EncodedLength.ldy (o : Src16) : EncodedLength.Statement (.ldy o) :=
  EncodedLength.ofSrc16 rfl (EncodedLength.two _ _) (EncodedLength.two _ _) (EncodedLength.two _ _)
    (EncodedLength.two _ _) (EncodedLength.two _ _)

theorem EncodedLength.staa (o : Addr) : EncodedLength.Statement (.staa o) :=
  EncodedLength.ofAddr rfl (EncodedLength.one _) (EncodedLength.one _) (EncodedLength.one _)
    (EncodedLength.two _ _)

theorem EncodedLength.stab (o : Addr) : EncodedLength.Statement (.stab o) :=
  EncodedLength.ofAddr rfl (EncodedLength.one _) (EncodedLength.one _) (EncodedLength.one _)
    (EncodedLength.two _ _)

theorem EncodedLength.std (o : Addr) : EncodedLength.Statement (.std o) :=
  EncodedLength.ofAddr rfl (EncodedLength.one _) (EncodedLength.one _) (EncodedLength.one _)
    (EncodedLength.two _ _)

theorem EncodedLength.sts (o : Addr) : EncodedLength.Statement (.sts o) :=
  EncodedLength.ofAddr rfl (EncodedLength.one _) (EncodedLength.one _) (EncodedLength.one _)
    (EncodedLength.two _ _)

theorem EncodedLength.stx (o : Addr) : EncodedLength.Statement (.stx o) :=
  EncodedLength.ofAddr rfl (EncodedLength.one _) (EncodedLength.one _) (EncodedLength.one _)
    (EncodedLength.two _ _)

theorem EncodedLength.sty (o : Addr) : EncodedLength.Statement (.sty o) :=
  EncodedLength.ofAddr rfl (EncodedLength.two _ _) (EncodedLength.two _ _) (EncodedLength.two _ _)
    (EncodedLength.two _ _)

theorem EncodedLength.psha : EncodedLength.Statement .psha :=
  EncodedLength.ofInherent rfl (EncodedLength.one _)

theorem EncodedLength.pshb : EncodedLength.Statement .pshb :=
  EncodedLength.ofInherent rfl (EncodedLength.one _)

theorem EncodedLength.pshx : EncodedLength.Statement .pshx :=
  EncodedLength.ofInherent rfl (EncodedLength.one _)

theorem EncodedLength.pshy : EncodedLength.Statement .pshy :=
  EncodedLength.ofInherent rfl (EncodedLength.two _ _)

theorem EncodedLength.pula : EncodedLength.Statement .pula :=
  EncodedLength.ofInherent rfl (EncodedLength.one _)

theorem EncodedLength.pulb : EncodedLength.Statement .pulb :=
  EncodedLength.ofInherent rfl (EncodedLength.one _)

theorem EncodedLength.pulx : EncodedLength.Statement .pulx :=
  EncodedLength.ofInherent rfl (EncodedLength.one _)

theorem EncodedLength.puly : EncodedLength.Statement .puly :=
  EncodedLength.ofInherent rfl (EncodedLength.two _ _)

theorem EncodedLength.tab : EncodedLength.Statement .tab :=
  EncodedLength.ofInherent rfl (EncodedLength.one _)

theorem EncodedLength.tba : EncodedLength.Statement .tba :=
  EncodedLength.ofInherent rfl (EncodedLength.one _)

theorem EncodedLength.tap : EncodedLength.Statement .tap :=
  EncodedLength.ofInherent rfl (EncodedLength.one _)

theorem EncodedLength.tpa : EncodedLength.Statement .tpa :=
  EncodedLength.ofInherent rfl (EncodedLength.one _)

theorem EncodedLength.tsx : EncodedLength.Statement .tsx :=
  EncodedLength.ofInherent rfl (EncodedLength.one _)

theorem EncodedLength.tsy : EncodedLength.Statement .tsy :=
  EncodedLength.ofInherent rfl (EncodedLength.two _ _)

theorem EncodedLength.txs : EncodedLength.Statement .txs :=
  EncodedLength.ofInherent rfl (EncodedLength.one _)

theorem EncodedLength.tys : EncodedLength.Statement .tys :=
  EncodedLength.ofInherent rfl (EncodedLength.two _ _)

theorem EncodedLength.xgdx : EncodedLength.Statement .xgdx :=
  EncodedLength.ofInherent rfl (EncodedLength.one _)

theorem EncodedLength.xgdy : EncodedLength.Statement .xgdy :=
  EncodedLength.ofInherent rfl (EncodedLength.two _ _)

theorem EncodedLength.bita (o : Src8) : EncodedLength.Statement (.bita o) :=
  EncodedLength.ofSrc8 rfl (EncodedLength.one _) (EncodedLength.one _) (EncodedLength.one _)
    (EncodedLength.one _) (EncodedLength.two _ _)

theorem EncodedLength.bitb (o : Src8) : EncodedLength.Statement (.bitb o) :=
  EncodedLength.ofSrc8 rfl (EncodedLength.one _) (EncodedLength.one _) (EncodedLength.one _)
    (EncodedLength.one _) (EncodedLength.two _ _)

theorem EncodedLength.cba : EncodedLength.Statement .cba :=
  EncodedLength.ofInherent rfl (EncodedLength.one _)

theorem EncodedLength.cmpa (o : Src8) : EncodedLength.Statement (.cmpa o) :=
  EncodedLength.ofSrc8 rfl (EncodedLength.one _) (EncodedLength.one _) (EncodedLength.one _)
    (EncodedLength.one _) (EncodedLength.two _ _)

theorem EncodedLength.cmpb (o : Src8) : EncodedLength.Statement (.cmpb o) :=
  EncodedLength.ofSrc8 rfl (EncodedLength.one _) (EncodedLength.one _) (EncodedLength.one _)
    (EncodedLength.one _) (EncodedLength.two _ _)

theorem EncodedLength.cpd (o : Src16) : EncodedLength.Statement (.cpd o) :=
  EncodedLength.ofSrc16 rfl (EncodedLength.two _ _) (EncodedLength.two _ _) (EncodedLength.two _ _)
    (EncodedLength.two _ _) (EncodedLength.two _ _)

theorem EncodedLength.cpx (o : Src16) : EncodedLength.Statement (.cpx o) :=
  EncodedLength.ofSrc16 rfl (EncodedLength.one _) (EncodedLength.one _) (EncodedLength.one _)
    (EncodedLength.one _) (EncodedLength.two _ _)

theorem EncodedLength.cpy (o : Src16) : EncodedLength.Statement (.cpy o) :=
  EncodedLength.ofSrc16 rfl (EncodedLength.two _ _) (EncodedLength.two _ _) (EncodedLength.two _ _)
    (EncodedLength.two _ _) (EncodedLength.two _ _)

theorem EncodedLength.tst (o : RmwAddr) : EncodedLength.Statement (.tst o) :=
  EncodedLength.ofRmw rfl (EncodedLength.one _) (EncodedLength.one _) (EncodedLength.two _ _)

theorem EncodedLength.tsta : EncodedLength.Statement .tsta :=
  EncodedLength.ofInherent rfl (EncodedLength.one _)

theorem EncodedLength.tstb : EncodedLength.Statement .tstb :=
  EncodedLength.ofInherent rfl (EncodedLength.one _)

theorem EncodedLength.bcc (rr : Byte) : EncodedLength.Statement (.bcc rr) :=
  EncodedLength.ofRel rfl

theorem EncodedLength.bcs (rr : Byte) : EncodedLength.Statement (.bcs rr) :=
  EncodedLength.ofRel rfl

theorem EncodedLength.beq (rr : Byte) : EncodedLength.Statement (.beq rr) :=
  EncodedLength.ofRel rfl

theorem EncodedLength.bne (rr : Byte) : EncodedLength.Statement (.bne rr) :=
  EncodedLength.ofRel rfl

theorem EncodedLength.bmi (rr : Byte) : EncodedLength.Statement (.bmi rr) :=
  EncodedLength.ofRel rfl

theorem EncodedLength.bpl (rr : Byte) : EncodedLength.Statement (.bpl rr) :=
  EncodedLength.ofRel rfl

theorem EncodedLength.bvc (rr : Byte) : EncodedLength.Statement (.bvc rr) :=
  EncodedLength.ofRel rfl

theorem EncodedLength.bvs (rr : Byte) : EncodedLength.Statement (.bvs rr) :=
  EncodedLength.ofRel rfl

theorem EncodedLength.bhi (rr : Byte) : EncodedLength.Statement (.bhi rr) :=
  EncodedLength.ofRel rfl

theorem EncodedLength.bhs (rr : Byte) : EncodedLength.Statement (.bhs rr) :=
  EncodedLength.ofRel rfl

theorem EncodedLength.blo (rr : Byte) : EncodedLength.Statement (.blo rr) :=
  EncodedLength.ofRel rfl

theorem EncodedLength.bls (rr : Byte) : EncodedLength.Statement (.bls rr) :=
  EncodedLength.ofRel rfl

theorem EncodedLength.bge (rr : Byte) : EncodedLength.Statement (.bge rr) :=
  EncodedLength.ofRel rfl

theorem EncodedLength.bgt (rr : Byte) : EncodedLength.Statement (.bgt rr) :=
  EncodedLength.ofRel rfl

theorem EncodedLength.ble (rr : Byte) : EncodedLength.Statement (.ble rr) :=
  EncodedLength.ofRel rfl

theorem EncodedLength.blt (rr : Byte) : EncodedLength.Statement (.blt rr) :=
  EncodedLength.ofRel rfl

theorem EncodedLength.brclr (o : BitAddr) (mm : Byte) (rr : Byte) : EncodedLength.Statement (.brclr o mm rr) :=
  EncodedLength.ofBit rfl (EncodedLength.one _) (EncodedLength.one _) (EncodedLength.two _ _) (Nat.le_refl _)

theorem EncodedLength.brset (o : BitAddr) (mm : Byte) (rr : Byte) : EncodedLength.Statement (.brset o mm rr) :=
  EncodedLength.ofBit rfl (EncodedLength.one _) (EncodedLength.one _) (EncodedLength.two _ _) (Nat.le_refl _)

theorem EncodedLength.bra (rr : Byte) : EncodedLength.Statement (.bra rr) :=
  EncodedLength.ofRel rfl

theorem EncodedLength.brn (rr : Byte) : EncodedLength.Statement (.brn rr) :=
  EncodedLength.ofRel rfl

theorem EncodedLength.bsr (rr : Byte) : EncodedLength.Statement (.bsr rr) :=
  EncodedLength.ofRel rfl

theorem EncodedLength.jmp (o : RmwAddr) : EncodedLength.Statement (.jmp o) :=
  EncodedLength.ofRmw rfl (EncodedLength.one _) (EncodedLength.one _) (EncodedLength.two _ _)

theorem EncodedLength.jsr (o : Addr) : EncodedLength.Statement (.jsr o) :=
  EncodedLength.ofAddr rfl (EncodedLength.one _) (EncodedLength.one _) (EncodedLength.one _)
    (EncodedLength.two _ _)

theorem EncodedLength.rts : EncodedLength.Statement .rts :=
  EncodedLength.ofInherent rfl (EncodedLength.one _)

theorem EncodedLength.rti : EncodedLength.Statement .rti :=
  EncodedLength.ofInherent rfl (EncodedLength.one _)

theorem EncodedLength.swi : EncodedLength.Statement .swi :=
  EncodedLength.ofInherent rfl (EncodedLength.one _)

theorem EncodedLength.wai : EncodedLength.Statement .wai :=
  EncodedLength.ofInherent rfl (EncodedLength.one _)

theorem EncodedLength.stop : EncodedLength.Statement .stop :=
  EncodedLength.ofInherent rfl (EncodedLength.one _)

theorem EncodedLength.test : EncodedLength.Statement .test :=
  EncodedLength.ofInherent rfl (EncodedLength.one _)

end Sys2Proof.Laws
end

