-- ==== Sys2Proof/Tests/Slice0.lean ====
section
/-! SUPPORT. Tests. Expected values come from the spec: the opcode maps of 30_encoding.md, the Encodings lines and
the Examples of files 40 to 47, the rules of 60_exceptions.md. Then the witnesses of the statements' hypotheses. -/

namespace Sys2Proof.Tests

open Sys2Proof.Machine

/-- The reset state with PC moved to $1000, where most of the spec's examples stand. -/
def start : State := { State.reset with pc := 0x1000#16 }

/-- `s` with bytes stored at addresses and code at its PC. -/
def placed (s : State) (data : List (Word × Byte)) (code : List Byte) : State :=
  let m := data.foldl (fun m e => Memory.write m e.1.toNat e.2) s.mem
  { s with mem := Memory.load m s.pc code }

/-- One step answers a next state of which `p` holds. -/
def gives (s : State) (p : State → Bool) : Bool :=
  match step s with
  | .next t => p t
  | _ => false

/-- A run state, masks and requests. -/
def asked (r : RunState) (x i : Bool) (xirq : Bool) (irqs : List IrqLine) : State :=
  { start with runState := r, ccr := { start.ccr with x := x, i := i }, pending := { xirq := xirq, irqs := irqs } }

/-- Bytes written as numbers. -/
def bytes (l : List Nat) : List Byte := l.map (BitVec.ofNat 8)

/-! ### WellFormed refuses each alias name (30_encoding.md R120). -/

theorem test_lsl_ill_formed : ¬ (Instr.lsl (.ext 0x1000#16)).WellFormed := by decide

theorem test_lsla_ill_formed : ¬ Instr.lsla.WellFormed := by decide

theorem test_lslb_ill_formed : ¬ Instr.lslb.WellFormed := by decide

theorem test_lsld_ill_formed : ¬ Instr.lsld.WellFormed := by decide

theorem test_bhs_ill_formed : ¬ (Instr.bhs 0x02#8).WellFormed := by decide

theorem test_blo_ill_formed : ¬ (Instr.blo 0x02#8).WellFormed := by decide

theorem test_asl_well_formed : (Instr.asl (.ext 0x1000#16)).WellFormed := by decide

/-! ### Words written out bit by bit from the Encodings lines, one for each family. -/

/-- ADDD DIR `D3 dd` of 40_arithmetic.md R207; ROR IND,Y `18 66 ff` of R248; EORA IMM `88 ii` of R262; BSET IND,X
`1C ff mm` of R297; LDX IND,Y `CD EE ff` of R314; CPD EXT `1A B3 hh ll` of R355; BRSET DIR `12 dd mm rr` of R387;
RTI `3B` of R400. -/
theorem test_decode_bits :
    decode [0b11010011#8, 0b01000000#8] = .ok (.addd (.mem (.dir 0x40#8))) [] ∧
    decode [0b00011000#8, 0b01100110#8, 0b11111111#8] = .ok (.ror (.indY 0xFF#8)) [] ∧
    decode [0b10001000#8, 0b01010101#8] = .ok (.eora (.imm 0x55#8)) [] ∧
    decode [0b00011100#8, 0b00000011#8, 0b10000001#8] = .ok (.bset (.indX 0x03#8) 0x81#8) [] ∧
    decode [0b11001101#8, 0b11101110#8, 0b00000111#8] = .ok (.ldx (.mem (.indY 0x07#8))) [] ∧
    decode [0b00011010#8, 0b10110011#8, 0b00010010#8, 0b00110100#8] = .ok (.cpd (.mem (.ext 0x1234#16))) [] ∧
    decode [0b00010010#8, 0b00100000#8, 0b00001111#8, 0b11111011#8] = .ok (.brset (.dir 0x20#8) 0x0F#8 0xFB#8) [] ∧
    decode [0b00111011#8] = .ok .rti [] := by decide

/-! ### Every row of the opcode maps but the aliases, whose words the core rows are. -/

/-- Rows of 30_encoding.md's maps for the rules R200 to R217, each with operand bytes filled in. -/
def arithmeticWords : List (List Byte × Instr) :=
  [(bytes [0x02], .idiv), (bytes [0x03], .fdiv), (bytes [0x10], .sba), (bytes [0x19], .daa), (bytes [0x1B], .aba),
    (bytes [0x3A], .abx), (bytes [0x3D], .mul), (bytes [0x80, 0x2C], .suba (.imm 0x2C#8)),
    (bytes [0x82, 0x2C], .sbca (.imm 0x2C#8)), (bytes [0x83, 0x12, 0x34], .subd (.imm 0x1234#16)),
    (bytes [0x89, 0x2C], .adca (.imm 0x2C#8)), (bytes [0x8B, 0x2C], .adda (.imm 0x2C#8)),
    (bytes [0x90, 0x40], .suba (.mem (.dir 0x40#8))), (bytes [0x92, 0x40], .sbca (.mem (.dir 0x40#8))),
    (bytes [0x93, 0x40], .subd (.mem (.dir 0x40#8))), (bytes [0x99, 0x40], .adca (.mem (.dir 0x40#8))),
    (bytes [0x9B, 0x40], .adda (.mem (.dir 0x40#8))), (bytes [0xA0, 0x05], .suba (.mem (.indX 0x05#8))),
    (bytes [0xA2, 0x05], .sbca (.mem (.indX 0x05#8))), (bytes [0xA3, 0x05], .subd (.mem (.indX 0x05#8))),
    (bytes [0xA9, 0x05], .adca (.mem (.indX 0x05#8))), (bytes [0xAB, 0x05], .adda (.mem (.indX 0x05#8))),
    (bytes [0xB0, 0x20, 0x56], .suba (.mem (.ext 0x2056#16))),
    (bytes [0xB2, 0x20, 0x56], .sbca (.mem (.ext 0x2056#16))),
    (bytes [0xB3, 0x20, 0x56], .subd (.mem (.ext 0x2056#16))),
    (bytes [0xB9, 0x20, 0x56], .adca (.mem (.ext 0x2056#16))),
    (bytes [0xBB, 0x20, 0x56], .adda (.mem (.ext 0x2056#16))), (bytes [0xC0, 0x2C], .subb (.imm 0x2C#8)),
    (bytes [0xC2, 0x2C], .sbcb (.imm 0x2C#8)), (bytes [0xC3, 0x12, 0x34], .addd (.imm 0x1234#16)),
    (bytes [0xC9, 0x2C], .adcb (.imm 0x2C#8)), (bytes [0xCB, 0x2C], .addb (.imm 0x2C#8)),
    (bytes [0xD0, 0x40], .subb (.mem (.dir 0x40#8))), (bytes [0xD2, 0x40], .sbcb (.mem (.dir 0x40#8))),
    (bytes [0xD3, 0x40], .addd (.mem (.dir 0x40#8))), (bytes [0xD9, 0x40], .adcb (.mem (.dir 0x40#8))),
    (bytes [0xDB, 0x40], .addb (.mem (.dir 0x40#8))), (bytes [0xE0, 0x05], .subb (.mem (.indX 0x05#8))),
    (bytes [0xE2, 0x05], .sbcb (.mem (.indX 0x05#8))), (bytes [0xE3, 0x05], .addd (.mem (.indX 0x05#8))),
    (bytes [0xE9, 0x05], .adcb (.mem (.indX 0x05#8))), (bytes [0xEB, 0x05], .addb (.mem (.indX 0x05#8))),
    (bytes [0xF0, 0x20, 0x56], .subb (.mem (.ext 0x2056#16))),
    (bytes [0xF2, 0x20, 0x56], .sbcb (.mem (.ext 0x2056#16))),
    (bytes [0xF3, 0x20, 0x56], .addd (.mem (.ext 0x2056#16))),
    (bytes [0xF9, 0x20, 0x56], .adcb (.mem (.ext 0x2056#16))),
    (bytes [0xFB, 0x20, 0x56], .addb (.mem (.ext 0x2056#16))), (bytes [0x18, 0x3A], .aby),
    (bytes [0x18, 0xA0, 0x05], .suba (.mem (.indY 0x05#8))),
    (bytes [0x18, 0xA2, 0x05], .sbca (.mem (.indY 0x05#8))),
    (bytes [0x18, 0xA3, 0x05], .subd (.mem (.indY 0x05#8))),
    (bytes [0x18, 0xA9, 0x05], .adca (.mem (.indY 0x05#8))),
    (bytes [0x18, 0xAB, 0x05], .adda (.mem (.indY 0x05#8))),
    (bytes [0x18, 0xE0, 0x05], .subb (.mem (.indY 0x05#8))),
    (bytes [0x18, 0xE2, 0x05], .sbcb (.mem (.indY 0x05#8))),
    (bytes [0x18, 0xE3, 0x05], .addd (.mem (.indY 0x05#8))),
    (bytes [0x18, 0xE9, 0x05], .adcb (.mem (.indY 0x05#8))),
    (bytes [0x18, 0xEB, 0x05], .addb (.mem (.indY 0x05#8)))]

theorem test_decode_arithmetic : ∀ p ∈ arithmeticWords, decode p.1 = .ok p.2 [] := by decide

/-- Rows of 30_encoding.md's maps for the rules R230 to R250, each with operand bytes filled in. -/
def shiftWords : List (List Byte × Instr) :=
  [(bytes [0x04], .lsrd), (bytes [0x05], .asld), (bytes [0x44], .lsra), (bytes [0x46], .rora),
    (bytes [0x47], .asra), (bytes [0x48], .asla), (bytes [0x49], .rola), (bytes [0x54], .lsrb),
    (bytes [0x56], .rorb), (bytes [0x57], .asrb), (bytes [0x58], .aslb), (bytes [0x59], .rolb),
    (bytes [0x64, 0x05], .lsr (.indX 0x05#8)), (bytes [0x66, 0x05], .ror (.indX 0x05#8)),
    (bytes [0x67, 0x05], .asr (.indX 0x05#8)), (bytes [0x68, 0x05], .asl (.indX 0x05#8)),
    (bytes [0x69, 0x05], .rol (.indX 0x05#8)), (bytes [0x74, 0x20, 0x56], .lsr (.ext 0x2056#16)),
    (bytes [0x76, 0x20, 0x56], .ror (.ext 0x2056#16)), (bytes [0x77, 0x20, 0x56], .asr (.ext 0x2056#16)),
    (bytes [0x78, 0x20, 0x56], .asl (.ext 0x2056#16)), (bytes [0x79, 0x20, 0x56], .rol (.ext 0x2056#16)),
    (bytes [0x18, 0x64, 0x05], .lsr (.indY 0x05#8)), (bytes [0x18, 0x66, 0x05], .ror (.indY 0x05#8)),
    (bytes [0x18, 0x67, 0x05], .asr (.indY 0x05#8)), (bytes [0x18, 0x68, 0x05], .asl (.indY 0x05#8)),
    (bytes [0x18, 0x69, 0x05], .rol (.indY 0x05#8))]

theorem test_decode_shift : ∀ p ∈ shiftWords, decode p.1 = .ok p.2 [] := by decide

/-- Rows of 30_encoding.md's maps for the rules R260 to R271, each with operand bytes filled in. -/
def logicWords : List (List Byte × Instr) :=
  [(bytes [0x40], .nega), (bytes [0x43], .coma), (bytes [0x50], .negb), (bytes [0x53], .comb),
    (bytes [0x60, 0x05], .neg (.indX 0x05#8)), (bytes [0x63, 0x05], .com (.indX 0x05#8)),
    (bytes [0x70, 0x20, 0x56], .neg (.ext 0x2056#16)), (bytes [0x73, 0x20, 0x56], .com (.ext 0x2056#16)),
    (bytes [0x84, 0x2C], .anda (.imm 0x2C#8)), (bytes [0x88, 0x2C], .eora (.imm 0x2C#8)),
    (bytes [0x8A, 0x2C], .oraa (.imm 0x2C#8)), (bytes [0x94, 0x40], .anda (.mem (.dir 0x40#8))),
    (bytes [0x98, 0x40], .eora (.mem (.dir 0x40#8))), (bytes [0x9A, 0x40], .oraa (.mem (.dir 0x40#8))),
    (bytes [0xA4, 0x05], .anda (.mem (.indX 0x05#8))), (bytes [0xA8, 0x05], .eora (.mem (.indX 0x05#8))),
    (bytes [0xAA, 0x05], .oraa (.mem (.indX 0x05#8))), (bytes [0xB4, 0x20, 0x56], .anda (.mem (.ext 0x2056#16))),
    (bytes [0xB8, 0x20, 0x56], .eora (.mem (.ext 0x2056#16))),
    (bytes [0xBA, 0x20, 0x56], .oraa (.mem (.ext 0x2056#16))), (bytes [0xC4, 0x2C], .andb (.imm 0x2C#8)),
    (bytes [0xC8, 0x2C], .eorb (.imm 0x2C#8)), (bytes [0xCA, 0x2C], .orab (.imm 0x2C#8)),
    (bytes [0xD4, 0x40], .andb (.mem (.dir 0x40#8))), (bytes [0xD8, 0x40], .eorb (.mem (.dir 0x40#8))),
    (bytes [0xDA, 0x40], .orab (.mem (.dir 0x40#8))), (bytes [0xE4, 0x05], .andb (.mem (.indX 0x05#8))),
    (bytes [0xE8, 0x05], .eorb (.mem (.indX 0x05#8))), (bytes [0xEA, 0x05], .orab (.mem (.indX 0x05#8))),
    (bytes [0xF4, 0x20, 0x56], .andb (.mem (.ext 0x2056#16))),
    (bytes [0xF8, 0x20, 0x56], .eorb (.mem (.ext 0x2056#16))),
    (bytes [0xFA, 0x20, 0x56], .orab (.mem (.ext 0x2056#16))), (bytes [0x18, 0x60, 0x05], .neg (.indY 0x05#8)),
    (bytes [0x18, 0x63, 0x05], .com (.indY 0x05#8)), (bytes [0x18, 0xA4, 0x05], .anda (.mem (.indY 0x05#8))),
    (bytes [0x18, 0xA8, 0x05], .eora (.mem (.indY 0x05#8))),
    (bytes [0x18, 0xAA, 0x05], .oraa (.mem (.indY 0x05#8))),
    (bytes [0x18, 0xE4, 0x05], .andb (.mem (.indY 0x05#8))),
    (bytes [0x18, 0xE8, 0x05], .eorb (.mem (.indY 0x05#8))),
    (bytes [0x18, 0xEA, 0x05], .orab (.mem (.indY 0x05#8)))]

theorem test_decode_logic : ∀ p ∈ logicWords, decode p.1 = .ok p.2 [] := by decide

/-- Rows of 30_encoding.md's maps for the rules R280 to R303, each with operand bytes filled in. -/
def incDecWords : List (List Byte × Instr) :=
  [(bytes [0x01], .nop), (bytes [0x08], .inx), (bytes [0x09], .dex), (bytes [0x0A], .clv), (bytes [0x0B], .sev),
    (bytes [0x0C], .clc), (bytes [0x0D], .sec), (bytes [0x0E], .cli), (bytes [0x0F], .sei),
    (bytes [0x14, 0x40, 0x81], .bset (.dir 0x40#8) 0x81#8), (bytes [0x15, 0x40, 0x81], .bclr (.dir 0x40#8) 0x81#8),
    (bytes [0x1C, 0x05, 0x81], .bset (.indX 0x05#8) 0x81#8),
    (bytes [0x1D, 0x05, 0x81], .bclr (.indX 0x05#8) 0x81#8), (bytes [0x31], .ins), (bytes [0x34], .des),
    (bytes [0x4A], .deca), (bytes [0x4C], .inca), (bytes [0x4F], .clra), (bytes [0x5A], .decb),
    (bytes [0x5C], .incb), (bytes [0x5F], .clrb), (bytes [0x6A, 0x05], .dec (.indX 0x05#8)),
    (bytes [0x6C, 0x05], .inc (.indX 0x05#8)), (bytes [0x6F, 0x05], .clr (.indX 0x05#8)),
    (bytes [0x7A, 0x20, 0x56], .dec (.ext 0x2056#16)), (bytes [0x7C, 0x20, 0x56], .inc (.ext 0x2056#16)),
    (bytes [0x7F, 0x20, 0x56], .clr (.ext 0x2056#16)), (bytes [0x18, 0x08], .iny), (bytes [0x18, 0x09], .dey),
    (bytes [0x18, 0x1C, 0x05, 0x81], .bset (.indY 0x05#8) 0x81#8),
    (bytes [0x18, 0x1D, 0x05, 0x81], .bclr (.indY 0x05#8) 0x81#8), (bytes [0x18, 0x6A, 0x05], .dec (.indY 0x05#8)),
    (bytes [0x18, 0x6C, 0x05], .inc (.indY 0x05#8)), (bytes [0x18, 0x6F, 0x05], .clr (.indY 0x05#8))]

theorem test_decode_incDec : ∀ p ∈ incDecWords, decode p.1 = .ok p.2 [] := by decide

/-- Rows of 30_encoding.md's maps for the rules R310 to R339, each with operand bytes filled in. -/
def transferWords : List (List Byte × Instr) :=
  [(bytes [0x06], .tap), (bytes [0x07], .tpa), (bytes [0x16], .tab), (bytes [0x17], .tba), (bytes [0x30], .tsx),
    (bytes [0x32], .pula), (bytes [0x33], .pulb), (bytes [0x35], .txs), (bytes [0x36], .psha),
    (bytes [0x37], .pshb), (bytes [0x38], .pulx), (bytes [0x3C], .pshx), (bytes [0x86, 0x2C], .ldaa (.imm 0x2C#8)),
    (bytes [0x8E, 0x12, 0x34], .lds (.imm 0x1234#16)), (bytes [0x8F], .xgdx),
    (bytes [0x96, 0x40], .ldaa (.mem (.dir 0x40#8))), (bytes [0x97, 0x40], .staa (.dir 0x40#8)),
    (bytes [0x9E, 0x40], .lds (.mem (.dir 0x40#8))), (bytes [0x9F, 0x40], .sts (.dir 0x40#8)),
    (bytes [0xA6, 0x05], .ldaa (.mem (.indX 0x05#8))), (bytes [0xA7, 0x05], .staa (.indX 0x05#8)),
    (bytes [0xAE, 0x05], .lds (.mem (.indX 0x05#8))), (bytes [0xAF, 0x05], .sts (.indX 0x05#8)),
    (bytes [0xB6, 0x20, 0x56], .ldaa (.mem (.ext 0x2056#16))), (bytes [0xB7, 0x20, 0x56], .staa (.ext 0x2056#16)),
    (bytes [0xBE, 0x20, 0x56], .lds (.mem (.ext 0x2056#16))), (bytes [0xBF, 0x20, 0x56], .sts (.ext 0x2056#16)),
    (bytes [0xC6, 0x2C], .ldab (.imm 0x2C#8)), (bytes [0xCC, 0x12, 0x34], .ldd (.imm 0x1234#16)),
    (bytes [0xCE, 0x12, 0x34], .ldx (.imm 0x1234#16)), (bytes [0xD6, 0x40], .ldab (.mem (.dir 0x40#8))),
    (bytes [0xD7, 0x40], .stab (.dir 0x40#8)), (bytes [0xDC, 0x40], .ldd (.mem (.dir 0x40#8))),
    (bytes [0xDD, 0x40], .std (.dir 0x40#8)), (bytes [0xDE, 0x40], .ldx (.mem (.dir 0x40#8))),
    (bytes [0xDF, 0x40], .stx (.dir 0x40#8)), (bytes [0xE6, 0x05], .ldab (.mem (.indX 0x05#8))),
    (bytes [0xE7, 0x05], .stab (.indX 0x05#8)), (bytes [0xEC, 0x05], .ldd (.mem (.indX 0x05#8))),
    (bytes [0xED, 0x05], .std (.indX 0x05#8)), (bytes [0xEE, 0x05], .ldx (.mem (.indX 0x05#8))),
    (bytes [0xEF, 0x05], .stx (.indX 0x05#8)), (bytes [0xF6, 0x20, 0x56], .ldab (.mem (.ext 0x2056#16))),
    (bytes [0xF7, 0x20, 0x56], .stab (.ext 0x2056#16)), (bytes [0xFC, 0x20, 0x56], .ldd (.mem (.ext 0x2056#16))),
    (bytes [0xFD, 0x20, 0x56], .std (.ext 0x2056#16)), (bytes [0xFE, 0x20, 0x56], .ldx (.mem (.ext 0x2056#16))),
    (bytes [0xFF, 0x20, 0x56], .stx (.ext 0x2056#16)), (bytes [0x18, 0x30], .tsy), (bytes [0x18, 0x35], .tys),
    (bytes [0x18, 0x38], .puly), (bytes [0x18, 0x3C], .pshy), (bytes [0x18, 0x8F], .xgdy),
    (bytes [0x18, 0xA6, 0x05], .ldaa (.mem (.indY 0x05#8))), (bytes [0x18, 0xA7, 0x05], .staa (.indY 0x05#8)),
    (bytes [0x18, 0xAE, 0x05], .lds (.mem (.indY 0x05#8))), (bytes [0x18, 0xAF, 0x05], .sts (.indY 0x05#8)),
    (bytes [0x18, 0xCE, 0x12, 0x34], .ldy (.imm 0x1234#16)), (bytes [0x18, 0xDE, 0x40], .ldy (.mem (.dir 0x40#8))),
    (bytes [0x18, 0xDF, 0x40], .sty (.dir 0x40#8))] ++
  [(bytes [0x18, 0xE6, 0x05], .ldab (.mem (.indY 0x05#8))), (bytes [0x18, 0xE7, 0x05], .stab (.indY 0x05#8)),
    (bytes [0x18, 0xEC, 0x05], .ldd (.mem (.indY 0x05#8))), (bytes [0x18, 0xED, 0x05], .std (.indY 0x05#8)),
    (bytes [0x18, 0xEE, 0x05], .ldy (.mem (.indY 0x05#8))), (bytes [0x18, 0xEF, 0x05], .sty (.indY 0x05#8)),
    (bytes [0x18, 0xFE, 0x20, 0x56], .ldy (.mem (.ext 0x2056#16))),
    (bytes [0x18, 0xFF, 0x20, 0x56], .sty (.ext 0x2056#16)), (bytes [0x1A, 0xEE, 0x05], .ldy (.mem (.indX 0x05#8))),
    (bytes [0x1A, 0xEF, 0x05], .sty (.indX 0x05#8)), (bytes [0xCD, 0xEE, 0x05], .ldx (.mem (.indY 0x05#8))),
    (bytes [0xCD, 0xEF, 0x05], .stx (.indY 0x05#8))]

theorem test_decode_transfer : ∀ p ∈ transferWords, decode p.1 = .ok p.2 [] := by decide

/-- Rows of 30_encoding.md's maps for the rules R350 to R360, each with operand bytes filled in. -/
def compareWords : List (List Byte × Instr) :=
  [(bytes [0x11], .cba), (bytes [0x4D], .tsta), (bytes [0x5D], .tstb), (bytes [0x6D, 0x05], .tst (.indX 0x05#8)),
    (bytes [0x7D, 0x20, 0x56], .tst (.ext 0x2056#16)), (bytes [0x81, 0x2C], .cmpa (.imm 0x2C#8)),
    (bytes [0x85, 0x2C], .bita (.imm 0x2C#8)), (bytes [0x8C, 0x12, 0x34], .cpx (.imm 0x1234#16)),
    (bytes [0x91, 0x40], .cmpa (.mem (.dir 0x40#8))), (bytes [0x95, 0x40], .bita (.mem (.dir 0x40#8))),
    (bytes [0x9C, 0x40], .cpx (.mem (.dir 0x40#8))), (bytes [0xA1, 0x05], .cmpa (.mem (.indX 0x05#8))),
    (bytes [0xA5, 0x05], .bita (.mem (.indX 0x05#8))), (bytes [0xAC, 0x05], .cpx (.mem (.indX 0x05#8))),
    (bytes [0xB1, 0x20, 0x56], .cmpa (.mem (.ext 0x2056#16))),
    (bytes [0xB5, 0x20, 0x56], .bita (.mem (.ext 0x2056#16))),
    (bytes [0xBC, 0x20, 0x56], .cpx (.mem (.ext 0x2056#16))), (bytes [0xC1, 0x2C], .cmpb (.imm 0x2C#8)),
    (bytes [0xC5, 0x2C], .bitb (.imm 0x2C#8)), (bytes [0xD1, 0x40], .cmpb (.mem (.dir 0x40#8))),
    (bytes [0xD5, 0x40], .bitb (.mem (.dir 0x40#8))), (bytes [0xE1, 0x05], .cmpb (.mem (.indX 0x05#8))),
    (bytes [0xE5, 0x05], .bitb (.mem (.indX 0x05#8))), (bytes [0xF1, 0x20, 0x56], .cmpb (.mem (.ext 0x2056#16))),
    (bytes [0xF5, 0x20, 0x56], .bitb (.mem (.ext 0x2056#16))), (bytes [0x18, 0x6D, 0x05], .tst (.indY 0x05#8)),
    (bytes [0x18, 0x8C, 0x12, 0x34], .cpy (.imm 0x1234#16)), (bytes [0x18, 0x9C, 0x40], .cpy (.mem (.dir 0x40#8))),
    (bytes [0x18, 0xA1, 0x05], .cmpa (.mem (.indY 0x05#8))),
    (bytes [0x18, 0xA5, 0x05], .bita (.mem (.indY 0x05#8))), (bytes [0x18, 0xAC, 0x05], .cpy (.mem (.indY 0x05#8))),
    (bytes [0x18, 0xBC, 0x20, 0x56], .cpy (.mem (.ext 0x2056#16))),
    (bytes [0x18, 0xE1, 0x05], .cmpb (.mem (.indY 0x05#8))),
    (bytes [0x18, 0xE5, 0x05], .bitb (.mem (.indY 0x05#8))),
    (bytes [0x1A, 0x83, 0x12, 0x34], .cpd (.imm 0x1234#16)), (bytes [0x1A, 0x93, 0x40], .cpd (.mem (.dir 0x40#8))),
    (bytes [0x1A, 0xA3, 0x05], .cpd (.mem (.indX 0x05#8))), (bytes [0x1A, 0xAC, 0x05], .cpy (.mem (.indX 0x05#8))),
    (bytes [0x1A, 0xB3, 0x20, 0x56], .cpd (.mem (.ext 0x2056#16))),
    (bytes [0xCD, 0xA3, 0x05], .cpd (.mem (.indY 0x05#8))), (bytes [0xCD, 0xAC, 0x05], .cpx (.mem (.indY 0x05#8)))]

theorem test_decode_compare : ∀ p ∈ compareWords, decode p.1 = .ok p.2 [] := by decide

/-- Rows of 30_encoding.md's maps for the rules R370 to R393, each with operand bytes filled in. -/
def branchWords : List (List Byte × Instr) :=
  [(bytes [0x12, 0x40, 0x81, 0xFE], .brset (.dir 0x40#8) 0x81#8 0xFE#8),
    (bytes [0x13, 0x40, 0x81, 0xFE], .brclr (.dir 0x40#8) 0x81#8 0xFE#8),
    (bytes [0x1E, 0x05, 0x81, 0xFE], .brset (.indX 0x05#8) 0x81#8 0xFE#8),
    (bytes [0x1F, 0x05, 0x81, 0xFE], .brclr (.indX 0x05#8) 0x81#8 0xFE#8), (bytes [0x20, 0xFE], .bra 0xFE#8),
    (bytes [0x21, 0xFE], .brn 0xFE#8), (bytes [0x22, 0xFE], .bhi 0xFE#8), (bytes [0x23, 0xFE], .bls 0xFE#8),
    (bytes [0x24, 0xFE], .bcc 0xFE#8), (bytes [0x25, 0xFE], .bcs 0xFE#8), (bytes [0x26, 0xFE], .bne 0xFE#8),
    (bytes [0x27, 0xFE], .beq 0xFE#8), (bytes [0x28, 0xFE], .bvc 0xFE#8), (bytes [0x29, 0xFE], .bvs 0xFE#8),
    (bytes [0x2A, 0xFE], .bpl 0xFE#8), (bytes [0x2B, 0xFE], .bmi 0xFE#8), (bytes [0x2C, 0xFE], .bge 0xFE#8),
    (bytes [0x2D, 0xFE], .blt 0xFE#8), (bytes [0x2E, 0xFE], .bgt 0xFE#8), (bytes [0x2F, 0xFE], .ble 0xFE#8),
    (bytes [0x39], .rts), (bytes [0x6E, 0x05], .jmp (.indX 0x05#8)),
    (bytes [0x7E, 0x20, 0x56], .jmp (.ext 0x2056#16)), (bytes [0x8D, 0xFE], .bsr 0xFE#8),
    (bytes [0x9D, 0x40], .jsr (.dir 0x40#8)), (bytes [0xAD, 0x05], .jsr (.indX 0x05#8)),
    (bytes [0xBD, 0x20, 0x56], .jsr (.ext 0x2056#16)),
    (bytes [0x18, 0x1E, 0x05, 0x81, 0xFE], .brset (.indY 0x05#8) 0x81#8 0xFE#8),
    (bytes [0x18, 0x1F, 0x05, 0x81, 0xFE], .brclr (.indY 0x05#8) 0x81#8 0xFE#8),
    (bytes [0x18, 0x6E, 0x05], .jmp (.indY 0x05#8)), (bytes [0x18, 0xAD, 0x05], .jsr (.indY 0x05#8))]

theorem test_decode_branch : ∀ p ∈ branchWords, decode p.1 = .ok p.2 [] := by decide

/-- Rows of 30_encoding.md's maps for the rules R400 to R404, each with operand bytes filled in. -/
def interruptWords : List (List Byte × Instr) :=
  [(bytes [0x00], .test), (bytes [0x3B], .rti), (bytes [0x3E], .wai), (bytes [0x3F], .swi), (bytes [0xCF], .stop)]

theorem test_decode_interrupt : ∀ p ∈ interruptWords, decode p.1 = .ok p.2 [] := by decide

/-- The words of the alias mnemonics decode to their core instructions (30_encoding.md R120). -/
theorem test_decode_aliases :
    decode [0x78#8, 0x20#8, 0x56#8] = .ok (Instr.lsl (.ext 0x2056#16)).core [] ∧
    decode [0x68#8, 0x05#8] = .ok (Instr.lsl (.indX 0x05#8)).core [] ∧
    decode [0x18#8, 0x68#8, 0x05#8] = .ok (Instr.lsl (.indY 0x05#8)).core [] ∧
    decode [0x48#8] = .ok Instr.lsla.core [] ∧ decode [0x58#8] = .ok Instr.lslb.core [] ∧
    decode [0x05#8] = .ok Instr.lsld.core [] ∧ decode [0x24#8, 0xFE#8] = .ok (Instr.bhs 0xFE#8).core [] ∧
    decode [0x25#8, 0xFE#8] = .ok (Instr.blo 0xFE#8).core [] := by decide

/-- Refused by name: an undefined opcode of each page, and bytes that end too soon (30_encoding.md R101, R117). -/
theorem test_decode_refuses :
    decode [0x41#8] = .undefinedOpcode .page0 0x41#8 ∧ decode [0x18#8, 0x01#8] = .undefinedOpcode .page1 0x01#8 ∧
    decode [0x1A#8, 0x3A#8] = .undefinedOpcode .page2 0x3A#8 ∧
    decode [0xCD#8, 0xCD#8] = .undefinedOpcode .page3 0xCD#8 ∧ decode [] = .truncated ∧
    decode [0x18#8] = .truncated ∧ decode [0x7E#8, 0x20#8] = .truncated := by decide

/-- The table's numbers for `18 68 ff` and `8B ii`, and the step on them right after reset. -/
theorem test_table_word :
    decodeTableWord 24 0x186807 = some (.asl (.indY 0x07#8)) ∧ decodeTableWord 16 0x8B01 = some (.adda (.imm 0x01#8)) ∧
    decodeTableWord 8 0x41 = none ∧
    (gives (State.reset.withFetchWord 16 0x8B7F) fun t => t.a == 0x7F#8 && t.pc == 0x0002#16) = true := by decide

/-! ### One step of each instruction: the first examples of its entry in files 40 to 47. -/

theorem test_aba :
    (gives (placed { start with a := 0x7F#8, b := 0x01#8 } [] [0x1B#8]) fun t =>
      t.a == 0x80#8 && t.ccr.h && t.ccr.n && !t.ccr.z && t.ccr.v && !t.ccr.c && t.pc == 0x1001#16) = true ∧
    (gives (placed { start with a := 0xFF#8, b := 0x01#8 } [] [0x1B#8]) fun t =>
      t.a == 0x00#8 && t.ccr.h && !t.ccr.n && t.ccr.z && !t.ccr.v && t.ccr.c && t.pc == 0x1001#16) = true := by
  decide

theorem test_abx :
    (gives (placed { start with ix := 0x10F0#16, b := 0xFF#8 } [] [0x3A#8]) fun t =>
      t.ix == 0x11EF#16 && t.pc == 0x1001#16) = true ∧
    (gives (placed { start with ix := 0xFFFF#16, b := 0x02#8 } [] [0x3A#8]) fun t =>
      t.ix == 0x0001#16 && t.pc == 0x1001#16) = true := by
  decide

theorem test_aby :
    (gives (placed { start with iy := 0x10F0#16, b := 0xFF#8 } [] [0x18#8, 0x3A#8]) fun t =>
      t.iy == 0x11EF#16 && t.pc == 0x1002#16) = true ∧
    (gives (placed { start with iy := 0xFFFF#16, b := 0x02#8 } [] [0x18#8, 0x3A#8]) fun t =>
      t.iy == 0x0001#16 && t.pc == 0x1002#16) = true := by
  decide

theorem test_adca :
    (gives (placed { start with a := 0xFF#8, ccr := { start.ccr with c := true } } [] [0x89#8, 0x00#8]) fun t =>
      t.a == 0x00#8 && t.ccr.h && !t.ccr.n && t.ccr.z && !t.ccr.v && t.ccr.c && t.pc == 0x1002#16) = true ∧
    (gives (placed { start with a := 0x38#8, ccr := { start.ccr with c := false } }
      [(0x0020#16, 0x49#8)] [0x99#8, 0x20#8]) fun t =>
      t.a == 0x81#8 && t.ccr.h && t.ccr.n && !t.ccr.z && t.ccr.v && !t.ccr.c && t.pc == 0x1002#16) = true := by
  decide

theorem test_adcb :
    (gives (placed { start with b := 0x7F#8, ccr := { start.ccr with c := true } } [] [0xC9#8, 0x00#8]) fun t =>
      t.b == 0x80#8 && t.ccr.h && t.ccr.n && !t.ccr.z && t.ccr.v && !t.ccr.c && t.pc == 0x1002#16) = true ∧
    (gives (placed { start with
        b := 0x01#8, ix := 0x2000#16, ccr := { start.ccr with c := true } }
      [(0x2002#16, 0x0E#8)] [0xE9#8, 0x02#8]) fun t =>
      t.b == 0x10#8 && t.ccr.h && !t.ccr.n && !t.ccr.z && !t.ccr.v && !t.ccr.c && t.pc == 0x1002#16) = true := by
  decide

theorem test_adda :
    (gives (placed { start with a := 0x7F#8 } [] [0x8B#8, 0x01#8]) fun t =>
      t.a == 0x80#8 && t.ccr.h && t.ccr.n && !t.ccr.z && t.ccr.v && !t.ccr.c && t.pc == 0x1002#16) = true ∧
    (gives (placed { start with a := 0x80#8, iy := 0x3000#16 }
      [(0x3003#16, 0xFF#8)] [0x18#8, 0xAB#8, 0x03#8]) fun t =>
      t.a == 0x7F#8 && !t.ccr.h && !t.ccr.n && !t.ccr.z && t.ccr.v && t.ccr.c && t.pc == 0x1003#16) = true := by
  decide

theorem test_addb :
    (gives (placed { start with b := 0x0F#8 } [] [0xCB#8, 0x01#8]) fun t =>
      t.b == 0x10#8 && t.ccr.h && !t.ccr.n && !t.ccr.z && !t.ccr.v && !t.ccr.c && t.pc == 0x1002#16) = true ∧
    (gives (placed { start with b := 0xF0#8 }
      [(0x1234#16, 0x20#8)] [0xFB#8, 0x12#8, 0x34#8]) fun t =>
      t.b == 0x10#8 && !t.ccr.h && !t.ccr.n && !t.ccr.z && !t.ccr.v && t.ccr.c && t.pc == 0x1003#16) = true := by
  decide

theorem test_addd :
    (gives (placed { start with a := 0x7F#8, b := 0xFF#8 } [] [0xC3#8, 0x00#8, 0x01#8]) fun t =>
      t.a == 0x80#8 && t.b == 0x00#8 && t.ccr.n && !t.ccr.z && t.ccr.v && !t.ccr.c && t.pc == 0x1003#16) = true ∧
    (gives (placed { start with a := 0xFF#8, b := 0xFF#8 }
      [(0x0040#16, 0x00#8), (0x0041#16, 0x01#8)] [0xD3#8, 0x40#8]) fun t =>
      t.a == 0x00#8 && t.b == 0x00#8 && !t.ccr.n && t.ccr.z && !t.ccr.v && t.ccr.c && t.pc == 0x1002#16) = true := by
  decide

theorem test_daa :
    (gives (placed { start with
        a := 0x81#8, ccr := { start.ccr with h := false, c := false } } [] [0x19#8]) fun t =>
      t.ccr.n && !t.ccr.z && !t.ccr.c && t.pc == 0x1001#16) = true ∧
    (gives (placed { start with
        a := 0x81#8, ccr := { start.ccr with h := true, c := false } } [] [0x19#8]) fun t =>
      t.a == 0x87#8 && t.ccr.n && !t.ccr.z && !t.ccr.c && t.pc == 0x1001#16) = true := by
  decide

theorem test_sba :
    (gives (placed { start with a := 0x00#8, b := 0x01#8 } [] [0x10#8]) fun t =>
      t.a == 0xFF#8 && t.ccr.n && !t.ccr.z && !t.ccr.v && t.ccr.c && t.pc == 0x1001#16) = true ∧
    (gives (placed { start with a := 0x80#8, b := 0x01#8 } [] [0x10#8]) fun t =>
      t.a == 0x7F#8 && !t.ccr.n && !t.ccr.z && t.ccr.v && !t.ccr.c && t.pc == 0x1001#16) = true := by
  decide

theorem test_sbca :
    (gives (placed { start with a := 0x00#8, ccr := { start.ccr with c := true } } [] [0x82#8, 0x00#8]) fun t =>
      t.a == 0xFF#8 && t.ccr.n && !t.ccr.z && !t.ccr.v && t.ccr.c && t.pc == 0x1002#16) = true ∧
    (gives (placed { start with a := 0x50#8, ccr := { start.ccr with c := true } }
      [(0x0030#16, 0x20#8)] [0x92#8, 0x30#8]) fun t =>
      t.a == 0x2F#8 && !t.ccr.n && !t.ccr.z && !t.ccr.v && !t.ccr.c && t.pc == 0x1002#16) = true := by
  decide

theorem test_sbcb :
    (gives (placed { start with b := 0x80#8, ccr := { start.ccr with c := true } } [] [0xC2#8, 0x00#8]) fun t =>
      t.b == 0x7F#8 && !t.ccr.n && !t.ccr.z && t.ccr.v && !t.ccr.c && t.pc == 0x1002#16) = true ∧
    (gives (placed { start with
        b := 0x10#8, ix := 0x2000#16, ccr := { start.ccr with c := false } }
      [(0x2001#16, 0x10#8)] [0xE2#8, 0x01#8]) fun t =>
      t.b == 0x00#8 && !t.ccr.n && t.ccr.z && !t.ccr.v && !t.ccr.c && t.pc == 0x1002#16) = true := by
  decide

theorem test_suba :
    (gives (placed { start with a := 0x00#8 } [] [0x80#8, 0x01#8]) fun t =>
      t.a == 0xFF#8 && t.ccr.n && !t.ccr.z && !t.ccr.v && t.ccr.c && t.pc == 0x1002#16) = true ∧
    (gives (placed { start with a := 0x7F#8 }
      [(0x1234#16, 0xFF#8)] [0xB0#8, 0x12#8, 0x34#8]) fun t =>
      t.a == 0x80#8 && t.ccr.n && !t.ccr.z && t.ccr.v && t.ccr.c && t.pc == 0x1003#16) = true := by
  decide

theorem test_subb :
    (gives (placed { start with b := 0x80#8 } [] [0xC0#8, 0x01#8]) fun t =>
      t.b == 0x7F#8 && !t.ccr.n && !t.ccr.z && t.ccr.v && !t.ccr.c && t.pc == 0x1002#16) = true ∧
    (gives (placed { start with b := 0x42#8, iy := 0x3000#16 }
      [(0x3000#16, 0x42#8)] [0x18#8, 0xE0#8, 0x00#8]) fun t =>
      t.b == 0x00#8 && !t.ccr.n && t.ccr.z && !t.ccr.v && !t.ccr.c && t.pc == 0x1003#16) = true := by
  decide

theorem test_subd :
    (gives (placed { start with a := 0x80#8, b := 0x00#8 } [] [0x83#8, 0x00#8, 0x01#8]) fun t =>
      t.a == 0x7F#8 && t.b == 0xFF#8 && !t.ccr.n && !t.ccr.z && t.ccr.v && !t.ccr.c && t.pc == 0x1003#16) = true ∧
    (gives (placed { start with a := 0x00#8, b := 0x00#8, ix := 0x2000#16 }
      [(0x2004#16, 0x00#8), (0x2005#16, 0x01#8)] [0xA3#8, 0x04#8]) fun t =>
      t.a == 0xFF#8 && t.b == 0xFF#8 && t.ccr.n && !t.ccr.z && !t.ccr.v && t.ccr.c && t.pc == 0x1002#16) = true := by
  decide

theorem test_mul :
    (gives (placed { start with a := 0xFF#8, b := 0xFF#8 } [] [0x3D#8]) fun t =>
      t.a == 0xFE#8 && t.b == 0x01#8 && !t.ccr.c && t.pc == 0x1001#16) = true ∧
    (gives (placed { start with a := 0x10#8, b := 0x18#8 } [] [0x3D#8]) fun t =>
      t.a == 0x01#8 && t.b == 0x80#8 && t.ccr.c && t.pc == 0x1001#16) = true := by
  decide

theorem test_fdiv :
    (gives (placed { start with a := 0x40#8, b := 0x00#8, ix := 0x8000#16 } [] [0x03#8]) fun t =>
      t.a == 0x00#8 && t.b == 0x00#8 && t.ix == 0x8000#16 && !t.ccr.z && !t.ccr.v && !t.ccr.c &&
      t.pc == 0x1001#16) = true ∧
    (gives (placed { start with a := 0x00#8, b := 0x01#8, ix := 0x0003#16 } [] [0x03#8]) fun t =>
      t.a == 0x00#8 && t.b == 0x01#8 && t.ix == 0x5555#16 && !t.ccr.z && !t.ccr.v && !t.ccr.c &&
      t.pc == 0x1001#16) = true := by
  decide

theorem test_idiv :
    (gives (placed { start with a := 0x00#8, b := 0x64#8, ix := 0x0007#16 } [] [0x02#8]) fun t =>
      t.a == 0x00#8 && t.b == 0x02#8 && t.ix == 0x000E#16 && !t.ccr.z && !t.ccr.v && !t.ccr.c &&
      t.pc == 0x1001#16) = true ∧
    (gives (placed { start with a := 0x12#8, b := 0x34#8, ix := 0x0000#16 } [] [0x02#8]) fun t =>
      t.ix == 0xFFFF#16 && !t.ccr.z && !t.ccr.v && t.ccr.c && t.pc == 0x1001#16) = true := by
  decide

theorem test_asl :
    (gives (placed start
      [(0x2000#16, 0x80#8)] [0x78#8, 0x20#8, 0x00#8]) fun t =>
      t.mem.byteAt 0x2000#16 == 0x00#8 && !t.ccr.n && t.ccr.z && t.ccr.v && t.ccr.c && t.pc == 0x1003#16) = true ∧
    (gives (placed { start with ix := 0x2000#16 }
      [(0x2001#16, 0x55#8)] [0x68#8, 0x01#8]) fun t =>
      t.mem.byteAt 0x2001#16 == 0xAA#8 && t.ccr.n && !t.ccr.z && t.ccr.v && !t.ccr.c && t.pc == 0x1002#16) = true := by
  decide

theorem test_asla :
    (gives (placed { start with a := 0xC1#8 } [] [0x48#8]) fun t =>
      t.a == 0x82#8 && t.ccr.n && !t.ccr.z && !t.ccr.v && t.ccr.c && t.pc == 0x1001#16) = true ∧
    (gives (placed { start with a := 0x40#8 } [] [0x48#8]) fun t =>
      t.a == 0x80#8 && t.ccr.n && !t.ccr.z && t.ccr.v && !t.ccr.c && t.pc == 0x1001#16) = true := by
  decide

theorem test_aslb :
    (gives (placed { start with b := 0x80#8 } [] [0x58#8]) fun t =>
      t.b == 0x00#8 && !t.ccr.n && t.ccr.z && t.ccr.v && t.ccr.c && t.pc == 0x1001#16) = true := by
  decide

theorem test_asld :
    (gives (placed { start with a := 0x40#8, b := 0x80#8 } [] [0x05#8]) fun t =>
      t.a == 0x81#8 && t.b == 0x00#8 && t.ccr.n && !t.ccr.z && t.ccr.v && !t.ccr.c && t.pc == 0x1001#16) = true ∧
    (gives (placed { start with a := 0x80#8, b := 0x00#8 } [] [0x05#8]) fun t =>
      t.a == 0x00#8 && t.b == 0x00#8 && !t.ccr.n && t.ccr.z && t.ccr.v && t.ccr.c && t.pc == 0x1001#16) = true := by
  decide

theorem test_asr :
    (gives (placed start
      [(0x2000#16, 0x81#8)] [0x77#8, 0x20#8, 0x00#8]) fun t =>
      t.mem.byteAt 0x2000#16 == 0xC0#8 && t.ccr.n && !t.ccr.z && !t.ccr.v && t.ccr.c && t.pc == 0x1003#16) = true ∧
    (gives (placed { start with iy := 0x3000#16 }
      [(0x3000#16, 0x01#8)] [0x18#8, 0x67#8, 0x00#8]) fun t =>
      t.mem.byteAt 0x3000#16 == 0x00#8 && !t.ccr.n && t.ccr.z && t.ccr.v && t.ccr.c && t.pc == 0x1003#16) = true := by
  decide

theorem test_asra :
    (gives (placed { start with a := 0x81#8 } [] [0x47#8]) fun t =>
      t.a == 0xC0#8 && t.ccr.n && !t.ccr.z && !t.ccr.v && t.ccr.c && t.pc == 0x1001#16) = true ∧
    (gives (placed { start with a := 0x7E#8 } [] [0x47#8]) fun t =>
      t.a == 0x3F#8 && !t.ccr.n && !t.ccr.z && !t.ccr.v && !t.ccr.c && t.pc == 0x1001#16) = true := by
  decide

theorem test_asrb :
    (gives (placed { start with b := 0xFF#8 } [] [0x57#8]) fun t =>
      t.b == 0xFF#8 && t.ccr.n && !t.ccr.z && !t.ccr.v && t.ccr.c && t.pc == 0x1001#16) = true := by
  decide

theorem test_lsr :
    (gives (placed start
      [(0x2000#16, 0x01#8)] [0x74#8, 0x20#8, 0x00#8]) fun t =>
      t.mem.byteAt 0x2000#16 == 0x00#8 && !t.ccr.n && t.ccr.z && t.ccr.v && t.ccr.c && t.pc == 0x1003#16) = true ∧
    (gives (placed { start with ix := 0x2000#16 }
      [(0x2002#16, 0xFE#8)] [0x64#8, 0x02#8]) fun t =>
      t.mem.byteAt 0x2002#16 == 0x7F#8 && !t.ccr.n && !t.ccr.z && !t.ccr.v && !t.ccr.c && t.pc == 0x1002#16) = true := by
  decide

theorem test_lsra :
    (gives (placed { start with a := 0x81#8 } [] [0x44#8]) fun t =>
      t.a == 0x40#8 && !t.ccr.n && !t.ccr.z && t.ccr.v && t.ccr.c && t.pc == 0x1001#16) = true := by
  decide

theorem test_lsrb :
    (gives (placed { start with b := 0x02#8 } [] [0x54#8]) fun t =>
      t.b == 0x01#8 && !t.ccr.n && !t.ccr.z && !t.ccr.v && !t.ccr.c && t.pc == 0x1001#16) = true := by
  decide

theorem test_lsrd :
    (gives (placed { start with a := 0x01#8, b := 0x01#8 } [] [0x04#8]) fun t =>
      t.a == 0x00#8 && t.b == 0x80#8 && !t.ccr.n && !t.ccr.z && t.ccr.v && t.ccr.c && t.pc == 0x1001#16) = true ∧
    (gives (placed { start with a := 0x00#8, b := 0x01#8 } [] [0x04#8]) fun t =>
      t.a == 0x00#8 && t.b == 0x00#8 && !t.ccr.n && t.ccr.z && t.ccr.v && t.ccr.c && t.pc == 0x1001#16) = true := by
  decide

theorem test_rol :
    (gives (placed { start with ccr := { start.ccr with c := true } }
      [(0x2000#16, 0x80#8)] [0x79#8, 0x20#8, 0x00#8]) fun t =>
      t.mem.byteAt 0x2000#16 == 0x01#8 && !t.ccr.n && !t.ccr.z && t.ccr.v && t.ccr.c && t.pc == 0x1003#16) = true ∧
    (gives (placed { start with
        ix := 0x2000#16, ccr := { start.ccr with c := false } }
      [(0x2000#16, 0x55#8)] [0x69#8, 0x00#8]) fun t =>
      t.mem.byteAt 0x2000#16 == 0xAA#8 && t.ccr.n && !t.ccr.z && t.ccr.v && !t.ccr.c && t.pc == 0x1002#16) = true := by
  decide

theorem test_rola :
    (gives (placed { start with a := 0x00#8, ccr := { start.ccr with c := true } } [] [0x49#8]) fun t =>
      t.a == 0x01#8 && !t.ccr.n && !t.ccr.z && !t.ccr.v && !t.ccr.c && t.pc == 0x1001#16) = true ∧
    (gives (placed { start with a := 0x80#8, ccr := { start.ccr with c := false } } [] [0x49#8]) fun t =>
      t.a == 0x00#8 && !t.ccr.n && t.ccr.z && t.ccr.v && t.ccr.c && t.pc == 0x1001#16) = true := by
  decide

theorem test_rolb :
    (gives (placed { start with b := 0x7F#8, ccr := { start.ccr with c := true } } [] [0x59#8]) fun t =>
      t.b == 0xFF#8 && t.ccr.n && !t.ccr.z && t.ccr.v && !t.ccr.c && t.pc == 0x1001#16) = true := by
  decide

theorem test_ror :
    (gives (placed { start with ccr := { start.ccr with c := true } }
      [(0x2000#16, 0x01#8)] [0x76#8, 0x20#8, 0x00#8]) fun t =>
      t.mem.byteAt 0x2000#16 == 0x80#8 && t.ccr.n && !t.ccr.z && !t.ccr.v && t.ccr.c && t.pc == 0x1003#16) = true ∧
    (gives (placed { start with
        iy := 0x3000#16, ccr := { start.ccr with c := false } }
      [(0x3004#16, 0x02#8)] [0x18#8, 0x66#8, 0x04#8]) fun t =>
      t.mem.byteAt 0x3004#16 == 0x01#8 && !t.ccr.n && !t.ccr.z && !t.ccr.v && !t.ccr.c && t.pc == 0x1003#16) = true := by
  decide

theorem test_rora :
    (gives (placed { start with a := 0x00#8, ccr := { start.ccr with c := true } } [] [0x46#8]) fun t =>
      t.a == 0x80#8 && t.ccr.n && !t.ccr.z && t.ccr.v && !t.ccr.c && t.pc == 0x1001#16) = true ∧
    (gives (placed { start with a := 0x01#8, ccr := { start.ccr with c := false } } [] [0x46#8]) fun t =>
      t.a == 0x00#8 && !t.ccr.n && t.ccr.z && t.ccr.v && t.ccr.c && t.pc == 0x1001#16) = true := by
  decide

theorem test_rorb :
    (gives (placed { start with b := 0x81#8, ccr := { start.ccr with c := true } } [] [0x56#8]) fun t =>
      t.b == 0xC0#8 && t.ccr.n && !t.ccr.z && !t.ccr.v && t.ccr.c && t.pc == 0x1001#16) = true := by
  decide

theorem test_anda :
    (gives (placed { start with
        a := 0xF0#8, ccr := { start.ccr with v := true, c := true } } [] [0x84#8, 0x0F#8]) fun t =>
      t.a == 0x00#8 && !t.ccr.n && t.ccr.z && !t.ccr.v && t.ccr.c && t.pc == 0x1002#16) = true ∧
    (gives (placed { start with a := 0xA5#8 }
      [(0x0010#16, 0xF0#8)] [0x94#8, 0x10#8]) fun t =>
      t.a == 0xA0#8 && t.ccr.n && !t.ccr.z && !t.ccr.v && !t.ccr.c && t.pc == 0x1002#16) = true := by
  decide

theorem test_andb :
    (gives (placed { start with b := 0xFF#8 } [] [0xC4#8, 0x80#8]) fun t =>
      t.b == 0x80#8 && t.ccr.n && !t.ccr.z && !t.ccr.v && !t.ccr.c && t.pc == 0x1002#16) = true ∧
    (gives (placed { start with b := 0x3C#8, iy := 0x3000#16 }
      [(0x3001#16, 0x0F#8)] [0x18#8, 0xE4#8, 0x01#8]) fun t =>
      t.b == 0x0C#8 && !t.ccr.n && !t.ccr.z && !t.ccr.v && !t.ccr.c && t.pc == 0x1003#16) = true := by
  decide

theorem test_eora :
    (gives (placed { start with a := 0x55#8, ccr := { start.ccr with c := false } } [] [0x88#8, 0xFF#8]) fun t =>
      t.a == 0xAA#8 && t.ccr.n && !t.ccr.z && !t.ccr.v && !t.ccr.c && t.pc == 0x1002#16) = true ∧
    (gives (placed { start with a := 0x5A#8 }
      [(0x1234#16, 0x5A#8)] [0xB8#8, 0x12#8, 0x34#8]) fun t =>
      t.a == 0x00#8 && !t.ccr.n && t.ccr.z && !t.ccr.v && !t.ccr.c && t.pc == 0x1003#16) = true := by
  decide

theorem test_eorb :
    (gives (placed { start with b := 0x80#8, ccr := { start.ccr with v := true } } [] [0xC8#8, 0x01#8]) fun t =>
      t.b == 0x81#8 && t.ccr.n && !t.ccr.z && !t.ccr.v && !t.ccr.c && t.pc == 0x1002#16) = true ∧
    (gives (placed { start with b := 0xFF#8, ix := 0x2000#16 }
      [(0x2000#16, 0x0F#8)] [0xE8#8, 0x00#8]) fun t =>
      t.b == 0xF0#8 && t.ccr.n && !t.ccr.z && !t.ccr.v && !t.ccr.c && t.pc == 0x1002#16) = true := by
  decide

theorem test_oraa :
    (gives (placed { start with a := 0x01#8 } [] [0x8A#8, 0x80#8]) fun t =>
      t.a == 0x81#8 && t.ccr.n && !t.ccr.z && !t.ccr.v && !t.ccr.c && t.pc == 0x1002#16) = true ∧
    (gives (placed { start with a := 0x00#8 }
      [(0x1023#16, 0x00#8)] [0xBA#8, 0x10#8, 0x23#8]) fun t =>
      !t.ccr.n && t.ccr.z && !t.ccr.v && !t.ccr.c && t.pc == 0x1003#16) = true := by
  decide

theorem test_orab :
    (gives (placed { start with
        b := 0x30#8, ccr := { start.ccr with v := true, c := true } } [] [0xCA#8, 0x0F#8]) fun t =>
      t.b == 0x3F#8 && !t.ccr.n && !t.ccr.z && !t.ccr.v && t.ccr.c && t.pc == 0x1002#16) = true ∧
    (gives (placed { start with b := 0x40#8 }
      [(0x0020#16, 0x80#8)] [0xDA#8, 0x20#8]) fun t =>
      t.b == 0xC0#8 && t.ccr.n && !t.ccr.z && !t.ccr.v && !t.ccr.c && t.pc == 0x1002#16) = true := by
  decide

theorem test_com :
    (gives (placed start
      [(0x2000#16, 0x55#8)] [0x73#8, 0x20#8, 0x00#8]) fun t =>
      t.mem.byteAt 0x2000#16 == 0xAA#8 && t.ccr.n && !t.ccr.z && !t.ccr.v && t.ccr.c && t.pc == 0x1003#16) = true ∧
    (gives (placed { start with
        ix := 0x2000#16, ccr := { start.ccr with v := true } }
      [(0x2000#16, 0xFF#8)] [0x63#8, 0x00#8]) fun t =>
      t.mem.byteAt 0x2000#16 == 0x00#8 && !t.ccr.n && t.ccr.z && !t.ccr.v && t.ccr.c && t.pc == 0x1002#16) = true := by
  decide

theorem test_coma :
    (gives (placed { start with a := 0x00#8 } [] [0x43#8]) fun t =>
      t.a == 0xFF#8 && t.ccr.n && !t.ccr.z && !t.ccr.v && t.ccr.c && t.pc == 0x1001#16) = true ∧
    (gives (placed { start with a := 0xFF#8 } [] [0x43#8]) fun t =>
      t.a == 0x00#8 && !t.ccr.n && t.ccr.z && !t.ccr.v && t.ccr.c && t.pc == 0x1001#16) = true := by
  decide

theorem test_comb :
    (gives (placed { start with b := 0xA5#8 } [] [0x53#8]) fun t =>
      t.b == 0x5A#8 && !t.ccr.n && !t.ccr.z && !t.ccr.v && t.ccr.c && t.pc == 0x1001#16) = true := by
  decide

theorem test_neg :
    (gives (placed start
      [(0x2000#16, 0x01#8)] [0x70#8, 0x20#8, 0x00#8]) fun t =>
      t.mem.byteAt 0x2000#16 == 0xFF#8 && t.ccr.n && !t.ccr.z && !t.ccr.v && t.ccr.c && t.pc == 0x1003#16) = true ∧
    (gives (placed { start with iy := 0x3000#16 }
      [(0x3003#16, 0x80#8)] [0x18#8, 0x60#8, 0x03#8]) fun t =>
      t.mem.byteAt 0x3003#16 == 0x80#8 && t.ccr.n && !t.ccr.z && t.ccr.v && t.ccr.c && t.pc == 0x1003#16) = true := by
  decide

theorem test_nega :
    (gives (placed { start with a := 0x00#8, ccr := { start.ccr with c := true } } [] [0x40#8]) fun t =>
      t.a == 0x00#8 && !t.ccr.n && t.ccr.z && !t.ccr.v && !t.ccr.c && t.pc == 0x1001#16) = true ∧
    (gives (placed { start with a := 0x80#8 } [] [0x40#8]) fun t =>
      t.a == 0x80#8 && t.ccr.n && !t.ccr.z && t.ccr.v && t.ccr.c && t.pc == 0x1001#16) = true := by
  decide

theorem test_negb :
    (gives (placed { start with b := 0x7F#8 } [] [0x50#8]) fun t =>
      t.b == 0x81#8 && t.ccr.n && !t.ccr.z && !t.ccr.v && t.ccr.c && t.pc == 0x1001#16) = true := by
  decide

theorem test_dec :
    (gives (placed { start with ccr := { start.ccr with c := true } }
      [(0x2000#16, 0x00#8)] [0x7A#8, 0x20#8, 0x00#8]) fun t =>
      t.mem.byteAt 0x2000#16 == 0xFF#8 && t.ccr.n && !t.ccr.z && !t.ccr.v && t.ccr.c && t.pc == 0x1003#16) = true ∧
    (gives (placed { start with ix := 0x2000#16 }
      [(0x2000#16, 0x80#8)] [0x6A#8, 0x00#8]) fun t =>
      t.mem.byteAt 0x2000#16 == 0x7F#8 && !t.ccr.n && !t.ccr.z && t.ccr.v && !t.ccr.c && t.pc == 0x1002#16) = true := by
  decide

theorem test_deca :
    (gives (placed { start with a := 0x01#8 } [] [0x4A#8]) fun t =>
      t.a == 0x00#8 && !t.ccr.n && t.ccr.z && !t.ccr.v && !t.ccr.c && t.pc == 0x1001#16) = true ∧
    (gives (placed { start with a := 0x80#8 } [] [0x4A#8]) fun t =>
      t.a == 0x7F#8 && !t.ccr.n && !t.ccr.z && t.ccr.v && !t.ccr.c && t.pc == 0x1001#16) = true := by
  decide

theorem test_decb :
    (gives (placed { start with b := 0x00#8 } [] [0x5A#8]) fun t =>
      t.b == 0xFF#8 && t.ccr.n && !t.ccr.z && !t.ccr.v && !t.ccr.c && t.pc == 0x1001#16) = true := by
  decide

theorem test_des :
    (gives (placed { start with sp := 0x01FF#16 } [] [0x34#8]) fun t =>
      t.sp == 0x01FE#16 && t.pc == 0x1001#16) = true ∧
    (gives (placed { start with sp := 0x0000#16 } [] [0x34#8]) fun t =>
      t.sp == 0xFFFF#16 && t.pc == 0x1001#16) = true := by
  decide

theorem test_dex :
    (gives (placed { start with ix := 0x0001#16 } [] [0x09#8]) fun t =>
      t.ix == 0x0000#16 && t.ccr.z && t.pc == 0x1001#16) = true ∧
    (gives (placed { start with
        ix := 0x0000#16, ccr := { start.ccr with z := true } } [] [0x09#8]) fun t =>
      t.ix == 0xFFFF#16 && !t.ccr.n && !t.ccr.z && t.pc == 0x1001#16) = true := by
  decide

theorem test_dey :
    (gives (placed { start with iy := 0x0100#16 } [] [0x18#8, 0x09#8]) fun t =>
      t.iy == 0x00FF#16 && !t.ccr.z && t.pc == 0x1002#16) = true := by
  decide

theorem test_inc :
    (gives (placed { start with ccr := { start.ccr with c := false } }
      [(0x2000#16, 0xFF#8)] [0x7C#8, 0x20#8, 0x00#8]) fun t =>
      t.mem.byteAt 0x2000#16 == 0x00#8 && !t.ccr.n && t.ccr.z && !t.ccr.v && !t.ccr.c && t.pc == 0x1003#16) = true ∧
    (gives (placed { start with iy := 0x3000#16 }
      [(0x3005#16, 0x7F#8)] [0x18#8, 0x6C#8, 0x05#8]) fun t =>
      t.mem.byteAt 0x3005#16 == 0x80#8 && t.ccr.n && !t.ccr.z && t.ccr.v && !t.ccr.c && t.pc == 0x1003#16) = true := by
  decide

theorem test_inca :
    (gives (placed { start with a := 0x7F#8 } [] [0x4C#8]) fun t =>
      t.a == 0x80#8 && t.ccr.n && !t.ccr.z && t.ccr.v && !t.ccr.c && t.pc == 0x1001#16) = true ∧
    (gives (placed { start with a := 0xFF#8, ccr := { start.ccr with c := true } } [] [0x4C#8]) fun t =>
      t.a == 0x00#8 && !t.ccr.n && t.ccr.z && !t.ccr.v && t.ccr.c && t.pc == 0x1001#16) = true := by
  decide

theorem test_incb :
    (gives (placed { start with b := 0x0F#8 } [] [0x5C#8]) fun t =>
      t.b == 0x10#8 && !t.ccr.n && !t.ccr.z && !t.ccr.v && !t.ccr.c && t.pc == 0x1001#16) = true := by
  decide

theorem test_ins :
    (gives (placed { start with sp := 0x01FD#16 } [] [0x31#8]) fun t =>
      t.sp == 0x01FE#16 && t.pc == 0x1001#16) = true ∧
    (gives (placed { start with sp := 0xFFFF#16 } [] [0x31#8]) fun t =>
      t.sp == 0x0000#16 && t.pc == 0x1001#16) = true := by
  decide

theorem test_inx :
    (gives (placed { start with ix := 0xFFFF#16 } [] [0x08#8]) fun t =>
      t.ix == 0x0000#16 && t.ccr.z && t.pc == 0x1001#16) = true ∧
    (gives (placed { start with
        ix := 0x7FFF#16, ccr := { start.ccr with z := true } } [] [0x08#8]) fun t =>
      t.ix == 0x8000#16 && !t.ccr.n && !t.ccr.z && t.pc == 0x1001#16) = true := by
  decide

theorem test_iny :
    (gives (placed { start with iy := 0x00FF#16 } [] [0x18#8, 0x08#8]) fun t =>
      t.iy == 0x0100#16 && !t.ccr.z && t.pc == 0x1002#16) = true := by
  decide

theorem test_nop :
    (gives (placed { start with
        a := 0x12#8, ccr := { start.ccr with n := true, c := true } } [] [0x01#8]) fun t =>
      !t.ccr.h && t.ccr.n && !t.ccr.z && !t.ccr.v && t.ccr.c && t.pc == 0x1001#16) = true := by
  decide

theorem test_clr :
    (gives (placed { start with
        ccr := { start.ccr with n := true, v := true, c := true } }
      [(0x2000#16, 0xAB#8)] [0x7F#8, 0x20#8, 0x00#8]) fun t =>
      t.mem.byteAt 0x2000#16 == 0x00#8 && !t.ccr.n && t.ccr.z && !t.ccr.v && !t.ccr.c && t.pc == 0x1003#16) = true ∧
    (gives (placed { start with ix := 0x2000#16 }
      [(0x2002#16, 0xFF#8)] [0x6F#8, 0x02#8]) fun t =>
      t.mem.byteAt 0x2002#16 == 0x00#8 && !t.ccr.n && t.ccr.z && !t.ccr.v && !t.ccr.c && t.pc == 0x1002#16) = true := by
  decide

theorem test_clra :
    (gives (placed { start with
        a := 0x5A#8, b := 0x77#8, ccr := { start.ccr with n := true, c := true } } [] [0x4F#8]) fun t =>
      t.a == 0x00#8 && !t.ccr.n && t.ccr.z && !t.ccr.v && !t.ccr.c && t.pc == 0x1001#16) = true := by
  decide

theorem test_clrb :
    (gives (placed { start with b := 0xFF#8, ccr := { start.ccr with c := true } } [] [0x5F#8]) fun t =>
      t.b == 0x00#8 && !t.ccr.n && t.ccr.z && !t.ccr.v && !t.ccr.c && t.pc == 0x1001#16) = true := by
  decide

theorem test_bclr :
    (gives (placed { start with ccr := { start.ccr with c := true } }
      [(0x0020#16, 0xFF#8)] [0x15#8, 0x20#8, 0x0F#8]) fun t =>
      t.mem.byteAt 0x0020#16 == 0xF0#8 && t.ccr.n && !t.ccr.z && !t.ccr.v && t.ccr.c && t.pc == 0x1003#16) = true ∧
    (gives (placed { start with
        ix := 0x2000#16, ccr := { start.ccr with v := true } }
      [(0x2001#16, 0x80#8)] [0x1D#8, 0x01#8, 0x80#8]) fun t =>
      t.mem.byteAt 0x2001#16 == 0x00#8 && !t.ccr.n && t.ccr.z && !t.ccr.v && !t.ccr.c && t.pc == 0x1003#16) = true := by
  decide

theorem test_bset :
    (gives (placed { start with ccr := { start.ccr with c := true, v := true } }
      [(0x0020#16, 0x00#8)] [0x14#8, 0x20#8, 0x81#8]) fun t =>
      t.mem.byteAt 0x0020#16 == 0x81#8 && t.ccr.n && !t.ccr.z && !t.ccr.v && t.ccr.c && t.pc == 0x1003#16) = true ∧
    (gives (placed { start with ix := 0x2000#16 }
      [(0x2003#16, 0x10#8)] [0x1C#8, 0x03#8, 0x01#8]) fun t =>
      t.mem.byteAt 0x2003#16 == 0x11#8 && !t.ccr.n && !t.ccr.z && !t.ccr.v && !t.ccr.c && t.pc == 0x1003#16) = true := by
  decide

theorem test_clc :
    (gives (placed { start with ccr := { start.ccr with c := true, v := true } } [] [0x0C#8]) fun t =>
      !t.ccr.h && !t.ccr.n && !t.ccr.z && t.ccr.v && !t.ccr.c && t.pc == 0x1001#16) = true := by
  decide

theorem test_cli :
    (gives (placed { start with ccr := { start.ccr with i := true } } [] [0x0E#8]) fun t =>
      !t.ccr.i && t.pc == 0x1001#16 && t.irqInhibit) = true := by
  decide

theorem test_clv :
    (gives (placed { start with
        ccr := { start.ccr with v := true, c := true, n := true } } [] [0x0A#8]) fun t =>
      !t.ccr.h && t.ccr.n && !t.ccr.z && !t.ccr.v && t.ccr.c && t.pc == 0x1001#16) = true := by
  decide

theorem test_sec :
    (gives (placed { start with ccr := { start.ccr with c := false } } [] [0x0D#8]) fun t =>
      !t.ccr.h && !t.ccr.n && !t.ccr.z && !t.ccr.v && t.ccr.c && t.pc == 0x1001#16) = true := by
  decide

theorem test_sei :
    (gives (placed { start with ccr := { start.ccr with i := false } } [] [0x0F#8]) fun t =>
      t.ccr.i && t.pc == 0x1001#16) = true := by
  decide

theorem test_sev :
    (gives (placed { start with ccr := { start.ccr with v := false } } [] [0x0B#8]) fun t =>
      !t.ccr.h && !t.ccr.n && !t.ccr.z && t.ccr.v && !t.ccr.c && t.pc == 0x1001#16) = true := by
  decide

theorem test_ldaa :
    (gives (placed { start with ccr := { start.ccr with v := true, c := true } } [] [0x86#8, 0x80#8]) fun t =>
      t.a == 0x80#8 && t.ccr.n && !t.ccr.z && !t.ccr.v && t.ccr.c && t.pc == 0x1002#16) = true ∧
    (gives (placed { start with a := 0x55#8 }
      [(0x1023#16, 0x00#8)] [0xB6#8, 0x10#8, 0x23#8]) fun t =>
      t.a == 0x00#8 && !t.ccr.n && t.ccr.z && !t.ccr.v && !t.ccr.c && t.pc == 0x1003#16) = true := by
  decide

theorem test_ldab :
    (gives (placed start
      [(0x0012#16, 0xFE#8)] [0xD6#8, 0x12#8]) fun t =>
      t.b == 0xFE#8 && t.ccr.n && !t.ccr.z && !t.ccr.v && !t.ccr.c && t.pc == 0x1002#16) = true ∧
    (gives (placed { start with iy := 0xFF80#16 }
      [(0x007F#16, 0x01#8)] [0x18#8, 0xE6#8, 0xFF#8]) fun t =>
      t.b == 0x01#8 && !t.ccr.n && !t.ccr.z && !t.ccr.v && !t.ccr.c && t.pc == 0x1003#16) = true := by
  decide

theorem test_ldd :
    (gives (placed start [] [0xCC#8, 0x12#8, 0x34#8]) fun t =>
      t.a == 0x12#8 && t.b == 0x34#8 && !t.ccr.n && !t.ccr.z && !t.ccr.v && !t.ccr.c && t.pc == 0x1003#16) = true ∧
    (gives (placed { start with ccr := { start.ccr with v := true } }
      [(0x2001#16, 0x80#8), (0x2002#16, 0x00#8)] [0xFC#8, 0x20#8, 0x01#8]) fun t =>
      t.a == 0x80#8 && t.b == 0x00#8 && t.ccr.n && !t.ccr.z && !t.ccr.v && !t.ccr.c && t.pc == 0x1003#16) = true := by
  decide

theorem test_lds :
    (gives (placed start [] [0x8E#8, 0x01#8, 0xFF#8]) fun t =>
      t.sp == 0x01FF#16 && !t.ccr.n && !t.ccr.z && !t.ccr.v && !t.ccr.c && t.pc == 0x1003#16) = true ∧
    (gives (placed { start with ix := 0x2000#16 }
      [(0x2000#16, 0x00#8), (0x2001#16, 0x00#8)] [0xAE#8, 0x00#8]) fun t =>
      t.sp == 0x0000#16 && !t.ccr.n && t.ccr.z && !t.ccr.v && !t.ccr.c && t.pc == 0x1002#16) = true := by
  decide

theorem test_ldx :
    (gives (placed start [] [0xCE#8, 0x20#8, 0x00#8]) fun t =>
      t.ix == 0x2000#16 && !t.ccr.n && !t.ccr.z && !t.ccr.v && !t.ccr.c && t.pc == 0x1003#16) = true ∧
    (gives (placed { start with iy := 0x3000#16 }
      [(0x3002#16, 0xAB#8), (0x3003#16, 0xCD#8)] [0xCD#8, 0xEE#8, 0x02#8]) fun t =>
      t.ix == 0xABCD#16 && t.ccr.n && !t.ccr.z && !t.ccr.v && !t.ccr.c && t.pc == 0x1003#16) = true := by
  decide

theorem test_ldy :
    (gives (placed start [] [0x18#8, 0xCE#8, 0x30#8, 0x00#8]) fun t =>
      t.iy == 0x3000#16 && !t.ccr.n && !t.ccr.z && !t.ccr.v && !t.ccr.c && t.pc == 0x1004#16) = true ∧
    (gives (placed { start with ix := 0x2000#16 }
      [(0x2002#16, 0xFF#8), (0x2003#16, 0xFE#8)] [0x1A#8, 0xEE#8, 0x02#8]) fun t =>
      t.iy == 0xFFFE#16 && t.ccr.n && !t.ccr.z && !t.ccr.v && !t.ccr.c && t.pc == 0x1003#16) = true := by
  decide

theorem test_staa :
    (gives (placed { start with
        a := 0x80#8, ccr := { start.ccr with v := true, c := true } } [] [0x97#8, 0x20#8]) fun t =>
      t.mem.byteAt 0x0020#16 == 0x80#8 && t.ccr.n && !t.ccr.z && !t.ccr.v && t.ccr.c && t.pc == 0x1002#16) = true ∧
    (gives (placed { start with a := 0x00#8 } [] [0xB7#8, 0x20#8, 0x00#8]) fun t =>
      t.mem.byteAt 0x2000#16 == 0x00#8 && !t.ccr.n && t.ccr.z && !t.ccr.v && !t.ccr.c && t.pc == 0x1003#16) = true := by
  decide

theorem test_stab :
    (gives (placed { start with b := 0x42#8, ix := 0x2000#16 } [] [0xE7#8, 0x01#8]) fun t =>
      t.mem.byteAt 0x2001#16 == 0x42#8 && !t.ccr.n && !t.ccr.z && !t.ccr.v && !t.ccr.c && t.pc == 0x1002#16) = true ∧
    (gives (placed { start with b := 0xFF#8, iy := 0x3000#16 } [] [0x18#8, 0xE7#8, 0x00#8]) fun t =>
      t.mem.byteAt 0x3000#16 == 0xFF#8 && t.ccr.n && !t.ccr.z && !t.ccr.v && !t.ccr.c && t.pc == 0x1003#16) = true := by
  decide

theorem test_std :
    (gives (placed { start with a := 0x12#8, b := 0x34#8 } [] [0xDD#8, 0x40#8]) fun t =>
      t.mem.byteAt 0x0040#16 == 0x12#8 && t.mem.byteAt 0x0041#16 == 0x34#8 && !t.ccr.n && !t.ccr.z &&
      !t.ccr.v && !t.ccr.c && t.pc == 0x1002#16) = true ∧
    (gives (placed { start with
        a := 0x80#8, b := 0x00#8, ix := 0x2000#16, ccr := { start.ccr with v := true } } [] [0xED#8, 0x00#8]) fun t =>
      t.mem.byteAt 0x2000#16 == 0x80#8 && t.mem.byteAt 0x2001#16 == 0x00#8 && t.ccr.n && !t.ccr.z &&
      !t.ccr.v && !t.ccr.c && t.pc == 0x1002#16) = true := by
  decide

theorem test_sts :
    (gives (placed { start with sp := 0x01FF#16 } [] [0xBF#8, 0x20#8, 0x00#8]) fun t =>
      t.mem.byteAt 0x2000#16 == 0x01#8 && t.mem.byteAt 0x2001#16 == 0xFF#8 && !t.ccr.n && !t.ccr.z &&
      !t.ccr.v && !t.ccr.c && t.pc == 0x1003#16) = true := by
  decide

theorem test_stx :
    (gives (placed { start with ix := 0xABCD#16 } [] [0xDF#8, 0x50#8]) fun t =>
      t.mem.byteAt 0x0050#16 == 0xAB#8 && t.mem.byteAt 0x0051#16 == 0xCD#8 && t.ccr.n && !t.ccr.z &&
      !t.ccr.v && !t.ccr.c && t.pc == 0x1002#16) = true ∧
    (gives (placed { start with ix := 0x0000#16, iy := 0x3000#16 } [] [0xCD#8, 0xEF#8, 0x00#8]) fun t =>
      t.mem.byteAt 0x3000#16 == 0x00#8 && t.mem.byteAt 0x3001#16 == 0x00#8 && !t.ccr.n && t.ccr.z &&
      !t.ccr.v && !t.ccr.c && t.pc == 0x1003#16) = true := by
  decide

theorem test_sty :
    (gives (placed { start with iy := 0x8001#16 } [] [0x18#8, 0xFF#8, 0x20#8, 0x00#8]) fun t =>
      t.mem.byteAt 0x2000#16 == 0x80#8 && t.mem.byteAt 0x2001#16 == 0x01#8 && t.ccr.n && !t.ccr.z &&
      !t.ccr.v && !t.ccr.c && t.pc == 0x1004#16) = true ∧
    (gives (placed { start with iy := 0x1234#16, ix := 0x2000#16 } [] [0x1A#8, 0xEF#8, 0x04#8]) fun t =>
      t.mem.byteAt 0x2004#16 == 0x12#8 && t.mem.byteAt 0x2005#16 == 0x34#8 && !t.ccr.n && !t.ccr.z &&
      !t.ccr.v && !t.ccr.c && t.pc == 0x1003#16) = true := by
  decide

theorem test_psha :
    (gives (placed { start with a := 0x5A#8, sp := 0x01FF#16 } [] [0x36#8]) fun t =>
      t.sp == 0x01FE#16 && t.mem.byteAt 0x01FF#16 == 0x5A#8 && t.pc == 0x1001#16) = true := by
  decide

theorem test_pshb :
    (gives (placed { start with b := 0x5A#8, sp := 0x01FF#16 } [] [0x37#8]) fun t =>
      t.sp == 0x01FE#16 && t.mem.byteAt 0x01FF#16 == 0x5A#8 && t.pc == 0x1001#16) = true := by
  decide

theorem test_pshx :
    (gives (placed { start with ix := 0x1234#16, sp := 0x01FF#16 } [] [0x3C#8]) fun t =>
      t.sp == 0x01FD#16 && t.mem.byteAt 0x01FF#16 == 0x34#8 && t.mem.byteAt 0x01FE#16 == 0x12#8 &&
      t.pc == 0x1001#16) = true := by
  decide

theorem test_pshy :
    (gives (placed { start with iy := 0x1234#16, sp := 0x01FF#16 } [] [0x18#8, 0x3C#8]) fun t =>
      t.sp == 0x01FD#16 && t.mem.byteAt 0x01FF#16 == 0x34#8 && t.mem.byteAt 0x01FE#16 == 0x12#8 &&
      t.pc == 0x1002#16) = true := by
  decide

theorem test_pula :
    (gives (placed { start with
        sp := 0x01FE#16, ccr := { start.ccr with n := true } }
      [(0x01FF#16, 0x00#8)] [0x32#8]) fun t =>
      t.a == 0x00#8 && t.sp == 0x01FF#16 && t.ccr.n && !t.ccr.z && t.pc == 0x1001#16) = true := by
  decide

theorem test_pulb :
    (gives (placed { start with
        sp := 0x01FE#16, ccr := { start.ccr with n := true } }
      [(0x01FF#16, 0x00#8)] [0x33#8]) fun t =>
      t.b == 0x00#8 && t.sp == 0x01FF#16 && t.ccr.n && !t.ccr.z && t.pc == 0x1001#16) = true := by
  decide

theorem test_pulx :
    (gives (placed { start with sp := 0x01FD#16 }
      [(0x01FE#16, 0x12#8), (0x01FF#16, 0x34#8)] [0x38#8]) fun t =>
      t.ix == 0x1234#16 && t.sp == 0x01FF#16 && t.pc == 0x1001#16) = true := by
  decide

theorem test_puly :
    (gives (placed { start with sp := 0x01FD#16 }
      [(0x01FE#16, 0x12#8), (0x01FF#16, 0x34#8)] [0x18#8, 0x38#8]) fun t =>
      t.iy == 0x1234#16 && t.sp == 0x01FF#16 && t.pc == 0x1002#16) = true := by
  decide

theorem test_tab :
    (gives (placed { start with
        a := 0x80#8, b := 0x11#8, ccr := { start.ccr with v := true } } [] [0x16#8]) fun t =>
      t.b == 0x80#8 && t.ccr.n && !t.ccr.z && !t.ccr.v && !t.ccr.c && t.pc == 0x1001#16) = true := by
  decide

theorem test_tba :
    (gives (placed { start with
        a := 0x33#8, b := 0x00#8, ccr := { start.ccr with c := true } } [] [0x17#8]) fun t =>
      t.a == 0x00#8 && !t.ccr.n && t.ccr.z && !t.ccr.v && t.ccr.c && t.pc == 0x1001#16) = true := by
  decide

theorem test_tap :
    (gives (placed { start with
        a := 0xFF#8, ccr := { start.ccr with s := false, x := false, i := false } } [] [0x06#8]) fun t =>
      t.ccr.h && t.ccr.n && t.ccr.z && t.ccr.v && t.ccr.c && t.ccr.s && t.ccr.i && t.pc == 0x1001#16) = true ∧
    (gives (placed { start with
        a := 0x00#8, ccr := { start.ccr with
          s := true, x := true, i := true, n := true,
          c := true } } [] [0x06#8]) fun t =>
      !t.ccr.h && !t.ccr.n && !t.ccr.z && !t.ccr.v && !t.ccr.c && !t.ccr.s && !t.ccr.x && !t.ccr.i &&
      t.pc == 0x1001#16) = true := by
  decide

theorem test_tpa :
    (gives (placed { start with
        a := 0x00#8,
        ccr := { start.ccr with
          s := true, x := true, h := false, i := true,
          n := false, z := true, v := false, c := true } } [] [0x07#8]) fun t =>
      t.a == 0xD5#8 && t.pc == 0x1001#16) = true := by
  decide

theorem test_tsx :
    (gives (placed { start with sp := 0x01FC#16, ix := 0x0000#16 } [] [0x30#8]) fun t =>
      t.ix == 0x01FD#16 && t.pc == 0x1001#16) = true := by
  decide

theorem test_tsy :
    (gives (placed { start with sp := 0x01FC#16, iy := 0x0000#16 } [] [0x18#8, 0x30#8]) fun t =>
      t.iy == 0x01FD#16 && t.pc == 0x1002#16) = true := by
  decide

theorem test_txs :
    (gives (placed { start with ix := 0x0200#16, sp := 0x0000#16 } [] [0x35#8]) fun t =>
      t.sp == 0x01FF#16 && t.pc == 0x1001#16) = true := by
  decide

theorem test_tys :
    (gives (placed { start with iy := 0x0200#16, sp := 0x0000#16 } [] [0x18#8, 0x35#8]) fun t =>
      t.sp == 0x01FF#16 && t.pc == 0x1002#16) = true := by
  decide

theorem test_xgdx :
    (gives (placed { start with a := 0x12#8, b := 0x34#8, ix := 0xABCD#16 } [] [0x8F#8]) fun t =>
      t.a == 0xAB#8 && t.b == 0xCD#8 && t.ix == 0x1234#16 && t.pc == 0x1001#16) = true := by
  decide

theorem test_xgdy :
    (gives (placed { start with a := 0x12#8, b := 0x34#8, iy := 0xABCD#16 } [] [0x18#8, 0x8F#8]) fun t =>
      t.a == 0xAB#8 && t.b == 0xCD#8 && t.iy == 0x1234#16 && t.pc == 0x1002#16) = true := by
  decide

theorem test_bita :
    (gives (placed { start with
        a := 0xC0#8, ccr := { start.ccr with c := true, v := true } } [] [0x85#8, 0x80#8]) fun t =>
      t.ccr.n && !t.ccr.z && !t.ccr.v && t.ccr.c && t.pc == 0x1002#16) = true ∧
    (gives (placed { start with a := 0x0F#8 }
      [(0x0020#16, 0xF0#8)] [0x95#8, 0x20#8]) fun t =>
      !t.ccr.n && t.ccr.z && !t.ccr.v && !t.ccr.c && t.pc == 0x1002#16) = true := by
  decide

theorem test_bitb :
    (gives (placed { start with b := 0x03#8 } [] [0xC5#8, 0x01#8]) fun t =>
      !t.ccr.n && !t.ccr.z && !t.ccr.v && !t.ccr.c && t.pc == 0x1002#16) = true ∧
    (gives (placed { start with b := 0xFF#8, ix := 0x2000#16 }
      [(0x2000#16, 0x00#8)] [0xE5#8, 0x00#8]) fun t =>
      !t.ccr.n && t.ccr.z && !t.ccr.v && !t.ccr.c && t.pc == 0x1002#16) = true := by
  decide

theorem test_cba :
    (gives (placed { start with a := 0x10#8, b := 0x20#8 } [] [0x11#8]) fun t =>
      t.ccr.n && !t.ccr.z && !t.ccr.v && t.ccr.c && t.pc == 0x1001#16) = true ∧
    (gives (placed { start with a := 0x80#8, b := 0x01#8 } [] [0x11#8]) fun t =>
      !t.ccr.n && !t.ccr.z && t.ccr.v && !t.ccr.c && t.pc == 0x1001#16) = true := by
  decide

theorem test_cmpa :
    (gives (placed { start with a := 0x0F#8 } [] [0x81#8, 0x10#8]) fun t =>
      t.ccr.n && !t.ccr.z && !t.ccr.v && t.ccr.c && t.pc == 0x1002#16) = true ∧
    (gives (placed { start with a := 0x80#8 }
      [(0x0091#16, 0x80#8)] [0x91#8, 0x91#8]) fun t =>
      !t.ccr.n && t.ccr.z && !t.ccr.v && !t.ccr.c && t.pc == 0x1002#16) = true := by
  decide

theorem test_cmpb :
    (gives (placed { start with b := 0x00#8, ccr := { start.ccr with c := true } } [] [0xC1#8, 0x00#8]) fun t =>
      !t.ccr.n && t.ccr.z && !t.ccr.v && !t.ccr.c && t.pc == 0x1002#16) = true ∧
    (gives (placed { start with b := 0xFF#8 }
      [(0x2000#16, 0x01#8)] [0xF1#8, 0x20#8, 0x00#8]) fun t =>
      t.ccr.n && !t.ccr.z && !t.ccr.v && !t.ccr.c && t.pc == 0x1003#16) = true := by
  decide

theorem test_cpd :
    (gives (placed { start with a := 0x12#8, b := 0x34#8 } [] [0x1A#8, 0x83#8, 0x12#8, 0x34#8]) fun t =>
      !t.ccr.n && t.ccr.z && !t.ccr.v && !t.ccr.c && t.pc == 0x1004#16) = true ∧
    (gives (placed { start with a := 0x00#8, b := 0x00#8 }
      [(0x0040#16, 0x00#8), (0x0041#16, 0x01#8)] [0x1A#8, 0x93#8, 0x40#8]) fun t =>
      t.ccr.n && !t.ccr.z && !t.ccr.v && t.ccr.c && t.pc == 0x1003#16) = true := by
  decide

theorem test_cpx :
    (gives (placed { start with ix := 0x2000#16 } [] [0x8C#8, 0x20#8, 0x00#8]) fun t =>
      !t.ccr.n && t.ccr.z && !t.ccr.v && !t.ccr.c && t.pc == 0x1003#16) = true ∧
    (gives (placed { start with ix := 0x0000#16 }
      [(0x0050#16, 0xFF#8), (0x0051#16, 0xFF#8)] [0x9C#8, 0x50#8]) fun t =>
      !t.ccr.n && !t.ccr.z && !t.ccr.v && t.ccr.c && t.pc == 0x1002#16) = true := by
  decide

theorem test_cpy :
    (gives (placed { start with iy := 0x2FFF#16 } [] [0x18#8, 0x8C#8, 0x30#8, 0x00#8]) fun t =>
      t.ccr.n && !t.ccr.z && !t.ccr.v && t.ccr.c && t.pc == 0x1004#16) = true ∧
    (gives (placed { start with iy := 0x1234#16, ix := 0x2000#16 }
      [(0x2000#16, 0x12#8), (0x2001#16, 0x34#8)] [0x1A#8, 0xAC#8, 0x00#8]) fun t =>
      !t.ccr.n && t.ccr.z && !t.ccr.v && !t.ccr.c && t.pc == 0x1003#16) = true := by
  decide

theorem test_tst :
    (gives (placed { start with ccr := { start.ccr with c := true, v := true } }
      [(0x2000#16, 0x00#8)] [0x7D#8, 0x20#8, 0x00#8]) fun t =>
      !t.ccr.n && t.ccr.z && !t.ccr.v && !t.ccr.c && t.pc == 0x1003#16) = true ∧
    (gives (placed { start with ix := 0x2000#16 }
      [(0x2001#16, 0x80#8)] [0x6D#8, 0x01#8]) fun t =>
      t.ccr.n && !t.ccr.z && !t.ccr.v && !t.ccr.c && t.pc == 0x1002#16) = true := by
  decide

theorem test_tsta :
    (gives (placed { start with a := 0xFF#8, ccr := { start.ccr with c := true } } [] [0x4D#8]) fun t =>
      t.ccr.n && !t.ccr.z && !t.ccr.v && !t.ccr.c && t.pc == 0x1001#16) = true ∧
    (gives (placed { start with a := 0x00#8, ccr := { start.ccr with n := true } } [] [0x4D#8]) fun t =>
      !t.ccr.n && t.ccr.z && !t.ccr.v && !t.ccr.c && t.pc == 0x1001#16) = true := by
  decide

theorem test_tstb :
    (gives (placed { start with b := 0x01#8, ccr := { start.ccr with v := true } } [] [0x5D#8]) fun t =>
      !t.ccr.n && !t.ccr.z && !t.ccr.v && !t.ccr.c && t.pc == 0x1001#16) = true := by
  decide

theorem test_bcc :
    (gives (placed { start with ccr := { start.ccr with c := false } } [] [0x24#8, 0x0E#8]) fun t =>
      t.pc == 0x1010#16) = true ∧
    (gives (placed { start with ccr := { start.ccr with c := true } } [] [0x24#8, 0xFC#8]) fun t =>
      t.pc == 0x1002#16) = true := by
  decide

theorem test_bcs :
    (gives (placed { start with ccr := { start.ccr with c := true } } [] [0x25#8, 0x0E#8]) fun t =>
      t.pc == 0x1010#16) = true ∧
    (gives (placed { start with ccr := { start.ccr with c := false } } [] [0x25#8, 0xFC#8]) fun t =>
      t.pc == 0x1002#16) = true := by
  decide

theorem test_beq :
    (gives (placed { start with ccr := { start.ccr with z := true } } [] [0x27#8, 0x0E#8]) fun t =>
      t.pc == 0x1010#16) = true ∧
    (gives (placed { start with ccr := { start.ccr with z := false } } [] [0x27#8, 0xFC#8]) fun t =>
      t.pc == 0x1002#16) = true := by
  decide

theorem test_bne :
    (gives (placed { start with ccr := { start.ccr with z := false } } [] [0x26#8, 0xFC#8]) fun t =>
      t.pc == 0x0FFE#16) = true ∧
    (gives (placed { start with ccr := { start.ccr with z := true } } [] [0x26#8, 0x0E#8]) fun t =>
      t.pc == 0x1002#16) = true := by
  decide

theorem test_bmi :
    (gives (placed { start with ccr := { start.ccr with n := true } } [] [0x2B#8, 0x0E#8]) fun t =>
      t.pc == 0x1010#16) = true ∧
    (gives (placed { start with ccr := { start.ccr with n := false } } [] [0x2B#8, 0xFC#8]) fun t =>
      t.pc == 0x1002#16) = true := by
  decide

theorem test_bpl :
    (gives (placed { start with ccr := { start.ccr with n := false, z := true } } [] [0x2A#8, 0x0E#8]) fun t =>
      t.pc == 0x1010#16) = true ∧
    (gives (placed { start with ccr := { start.ccr with n := true } } [] [0x2A#8, 0xFC#8]) fun t =>
      t.pc == 0x1002#16) = true := by
  decide

theorem test_bvc :
    (gives (placed { start with ccr := { start.ccr with v := false } } [] [0x28#8, 0x0E#8]) fun t =>
      t.pc == 0x1010#16) = true ∧
    (gives (placed { start with ccr := { start.ccr with v := true } } [] [0x28#8, 0xFC#8]) fun t =>
      t.pc == 0x1002#16) = true := by
  decide

theorem test_bvs :
    (gives (placed { start with ccr := { start.ccr with v := true } } [] [0x29#8, 0x0E#8]) fun t =>
      t.pc == 0x1010#16) = true ∧
    (gives (placed { start with ccr := { start.ccr with v := false } } [] [0x29#8, 0xFC#8]) fun t =>
      t.pc == 0x1002#16) = true := by
  decide

theorem test_bhi :
    (gives (placed { start with ccr := { start.ccr with c := false, z := false } } [] [0x22#8, 0x0E#8]) fun t =>
      t.pc == 0x1010#16) = true ∧
    (gives (placed { start with ccr := { start.ccr with c := false, z := true } } [] [0x22#8, 0x0E#8]) fun t =>
      t.pc == 0x1002#16) = true := by
  decide

theorem test_bls :
    (gives (placed { start with ccr := { start.ccr with c := true, z := false } } [] [0x23#8, 0xFC#8]) fun t =>
      t.pc == 0x0FFE#16) = true ∧
    (gives (placed { start with ccr := { start.ccr with c := false, z := true } } [] [0x23#8, 0xFC#8]) fun t =>
      t.pc == 0x0FFE#16) = true := by
  decide

theorem test_bge :
    (gives (placed { start with ccr := { start.ccr with n := true, v := true } } [] [0x2C#8, 0x0E#8]) fun t =>
      t.pc == 0x1010#16) = true ∧
    (gives (placed { start with ccr := { start.ccr with n := false, v := false } } [] [0x2C#8, 0x0E#8]) fun t =>
      t.pc == 0x1010#16) = true := by
  decide

theorem test_bgt :
    (gives (placed { start with
        ccr := { start.ccr with z := false, n := false, v := false } } [] [0x2E#8, 0x0E#8]) fun t =>
      t.pc == 0x1010#16) = true ∧
    (gives (placed { start with
        ccr := { start.ccr with z := true, n := false, v := false } } [] [0x2E#8, 0x0E#8]) fun t =>
      t.pc == 0x1002#16) = true := by
  decide

theorem test_ble :
    (gives (placed { start with
        ccr := { start.ccr with z := true, n := false, v := false } } [] [0x2F#8, 0xFC#8]) fun t =>
      t.pc == 0x0FFE#16) = true ∧
    (gives (placed { start with
        ccr := { start.ccr with z := false, n := true, v := false } } [] [0x2F#8, 0xFC#8]) fun t =>
      t.pc == 0x0FFE#16) = true := by
  decide

theorem test_blt :
    (gives (placed { start with ccr := { start.ccr with n := true, v := false } } [] [0x2D#8, 0x0E#8]) fun t =>
      t.pc == 0x1010#16) = true ∧
    (gives (placed { start with ccr := { start.ccr with n := false, v := true } } [] [0x2D#8, 0x0E#8]) fun t =>
      t.pc == 0x1010#16) = true := by
  decide

theorem test_brclr :
    (gives (placed start
      [(0x0020#16, 0x7E#8)] [0x13#8, 0x20#8, 0x81#8, 0x0C#8]) fun t =>
      t.pc == 0x1010#16) = true ∧
    (gives (placed start
      [(0x0020#16, 0x01#8)] [0x13#8, 0x20#8, 0x81#8, 0x0C#8]) fun t =>
      t.pc == 0x1004#16) = true := by
  decide

theorem test_brset :
    (gives (placed start
      [(0x0020#16, 0x93#8)] [0x12#8, 0x20#8, 0x81#8, 0x0C#8]) fun t =>
      t.pc == 0x1010#16) = true ∧
    (gives (placed start
      [(0x0020#16, 0x80#8)] [0x12#8, 0x20#8, 0x81#8, 0x0C#8]) fun t =>
      t.pc == 0x1004#16) = true := by
  decide

theorem test_bra :
    (gives (placed start [] [0x20#8, 0x0E#8]) fun t =>
      t.pc == 0x1010#16) = true ∧
    (gives (placed start [] [0x20#8, 0xFE#8]) fun t =>
      t.pc == 0x1000#16) = true := by
  decide

theorem test_brn :
    (gives (placed start [] [0x21#8, 0x0E#8]) fun t =>
      t.pc == 0x1002#16) = true := by
  decide

theorem test_bsr :
    (gives (placed { start with sp := 0x01FF#16 } [] [0x8D#8, 0x0E#8]) fun t =>
      t.sp == 0x01FD#16 && t.mem.byteAt 0x01FF#16 == 0x02#8 && t.mem.byteAt 0x01FE#16 == 0x10#8 &&
      t.pc == 0x1010#16) = true ∧
    (gives (placed { start with sp := 0x0000#16 } [] [0x8D#8, 0xEE#8]) fun t =>
      t.sp == 0xFFFE#16 && t.mem.byteAt 0x0000#16 == 0x02#8 && t.mem.byteAt 0xFFFF#16 == 0x10#8 &&
      t.pc == 0x0FF0#16) = true := by
  decide

theorem test_jmp :
    (gives (placed start [] [0x7E#8, 0x20#8, 0x00#8]) fun t =>
      t.pc == 0x2000#16) = true ∧
    (gives (placed { start with ix := 0x2000#16 } [] [0x6E#8, 0x04#8]) fun t =>
      t.pc == 0x2004#16) = true := by
  decide

theorem test_jsr :
    (gives (placed { start with sp := 0x01FF#16 } [] [0xBD#8, 0x20#8, 0x00#8]) fun t =>
      t.sp == 0x01FD#16 && t.mem.byteAt 0x01FF#16 == 0x03#8 && t.mem.byteAt 0x01FE#16 == 0x10#8 &&
      t.pc == 0x2000#16) = true ∧
    (gives (placed { start with sp := 0x01FF#16 } [] [0x9D#8, 0x80#8]) fun t =>
      t.sp == 0x01FD#16 && t.mem.byteAt 0x01FF#16 == 0x02#8 && t.mem.byteAt 0x01FE#16 == 0x10#8 &&
      t.pc == 0x0080#16) = true := by
  decide

theorem test_rts :
    (gives (placed { start with sp := 0x01FD#16 }
      [(0x01FE#16, 0x10#8), (0x01FF#16, 0x03#8)] [0x39#8]) fun t =>
      t.sp == 0x01FF#16 && t.pc == 0x1003#16) = true := by
  decide

theorem test_rti :
    (gives (placed { start with sp := 0x01F6#16 }
      [(0x01F7#16, 0xC1#8), (0x01F8#16, 0x22#8), (0x01F9#16, 0x11#8), (0x01FA#16, 0x33#8), (0x01FB#16, 0x44#8),
        (0x01FC#16, 0x55#8), (0x01FD#16, 0x66#8), (0x01FE#16, 0x12#8), (0x01FF#16, 0x34#8)] [0x3B#8]) fun t =>
      t.a == 0x11#8 && t.b == 0x22#8 && t.ix == 0x3344#16 && t.iy == 0x5566#16 && t.sp == 0x01FF#16 &&
      !t.ccr.h && !t.ccr.n && !t.ccr.z && !t.ccr.v && t.ccr.c && !t.ccr.i && t.pc == 0x1234#16) = true ∧
    (gives (placed { start with
        sp := 0x01F6#16, ccr := { start.ccr with x := false } }
      [(0x01F7#16, 0xC1#8), (0x01F8#16, 0x22#8), (0x01F9#16, 0x11#8), (0x01FA#16, 0x33#8), (0x01FB#16, 0x44#8),
        (0x01FC#16, 0x55#8), (0x01FD#16, 0x66#8), (0x01FE#16, 0x12#8), (0x01FF#16, 0x34#8)] [0x3B#8]) fun t =>
      t.a == 0x11#8 && t.b == 0x22#8 && t.ix == 0x3344#16 && t.iy == 0x5566#16 && t.sp == 0x01FF#16 &&
      !t.ccr.i && t.pc == 0x1234#16 && !t.ccr.x) = true := by
  decide

theorem test_swi :
    (gives (placed { start with
        a := 0x11#8, b := 0x22#8, ix := 0x3344#16, iy := 0x5566#16, sp := 0x01FF#16,
        ccr := { start.ccr with i := false, c := true } }
      [(0xFFF6#16, 0x20#8), (0xFFF7#16, 0x00#8)] [0x3F#8]) fun t =>
      t.sp == 0x01F6#16 && t.mem.byteAt 0x01FF#16 == 0x01#8 && t.mem.byteAt 0x01FE#16 == 0x10#8 &&
      t.mem.byteAt 0x01FD#16 == 0x66#8 && t.mem.byteAt 0x01FC#16 == 0x55#8 &&
      t.mem.byteAt 0x01FB#16 == 0x44#8 && t.mem.byteAt 0x01FA#16 == 0x33#8 &&
      t.mem.byteAt 0x01F9#16 == 0x11#8 && t.mem.byteAt 0x01F8#16 == 0x22#8 &&
      t.mem.byteAt 0x01F7#16 == 0xC1#8 && t.ccr.i && t.pc == 0x2000#16) = true := by
  decide

theorem test_wai :
    (gives (placed { start with
        a := 0x11#8, b := 0x22#8, ix := 0x3344#16, iy := 0x5566#16, sp := 0x01FF#16,
        ccr := { start.ccr with i := false } } [] [0x3E#8]) fun t =>
      t.sp == 0x01F6#16 && t.mem.byteAt 0x01FF#16 == 0x01#8 && t.mem.byteAt 0x01FE#16 == 0x10#8 &&
      t.mem.byteAt 0x01FD#16 == 0x66#8 && t.mem.byteAt 0x01FC#16 == 0x55#8 &&
      t.mem.byteAt 0x01FB#16 == 0x44#8 && t.mem.byteAt 0x01FA#16 == 0x33#8 &&
      t.mem.byteAt 0x01F9#16 == 0x11#8 && t.mem.byteAt 0x01F8#16 == 0x22#8 &&
      t.mem.byteAt 0x01F7#16 == 0xC0#8 && t.pc == 0x1001#16 && decide (t.runState = .wait)) = true := by
  decide

theorem test_stop :
    (gives (placed { start with ccr := { start.ccr with s := true } } [] [0xCF#8]) fun t =>
      t.pc == 0x1001#16 && decide (t.runState = .run)) = true ∧
    (gives (placed { start with ccr := { start.ccr with s := false } } [] [0xCF#8]) fun t =>
      t.pc == 0x1001#16 && decide (t.runState = .stop) && !t.xirqHeld) = true := by
  decide

theorem test_test :
    (gives (placed { start with testMode := true } [] [0x00#8]) fun t =>
      t.pc == 0x1001#16 && decide (t.runState = .testHang)) = true := by
  decide

/-! ### Second names, traps and wake-ups -/

theorem test_alias_meanings (s : State) (o : RmwAddr) (rr : Byte) :
    exec (.lsl o) s = exec (.asl o) s ∧ exec .lsla s = exec .asla s ∧ exec .lslb s = exec .aslb s ∧
    exec .lsld s = exec .asld s ∧ exec (.bhs rr) s = exec (.bcc rr) s ∧ exec (.blo rr) s = exec (.bcs rr) s :=
  ⟨rfl, rfl, rfl, rfl, rfl, rfl⟩

/-- An undefined opcode traps through $FFF8 and sets I, not X (60_exceptions.md R424, R427). The stack stands in ROM,
since the stacked address is a constant without a value (log entry 8). -/
theorem test_undefined_opcode_trap :
    (gives (placed { start with
        sp := 0x01FF#16, ccr := { start.ccr with x := false, i := false }
        memMap := [{ base := 0x0100, size := 0x100, kind := .rom }] }
      [(0xFFF8#16, 0x20#8)] [0x41#8]) fun t =>
      t.pc == 0x2000#16 && t.sp == 0x01F6#16 && t.ccr.i && !t.ccr.x) = true := by decide

/-- XIRQ with X = 0 sets X and I and goes through $FFF4 (60_exceptions.md R424, R428). -/
theorem test_xirq :
    (gives { placed { start with sp := 0x01FF#16, ccr := { start.ccr with x := false } } [(0xFFF4#16, 0x30#8)] [] with
      pending := { xirq := true, irqs := [] } } fun t =>
      t.pc == 0x3000#16 && t.ccr.x && t.ccr.i && t.mem.byteAt 0x01F7#16 == 0x90#8) = true := by decide

/-- The line first in the order is served first, wherever it stands among the requests (60_exceptions.md R425). -/
theorem test_irq_priority :
    (gives { placed { start with sp := 0x01FF#16, ccr := { start.ccr with i := false } } [(0xFFF0#16, 0x40#8)] [] with
      pending := { xirq := false, irqs := [.sci, .realTime] } } fun t => t.pc == 0x4000#16 && t.ccr.i) = true := by
  decide

/-- A wake-up from WAIT stacks nothing more (47_interrupt_special.md R402). -/
theorem test_wake_from_wait :
    (gives { placed { start with sp := 0x01F6#16, runState := .wait, ccr := { start.ccr with i := false } }
      [(0xFFF2#16, 0x50#8)] [] with pending := { xirq := false, irqs := [.irq] } } fun t =>
      t.pc == 0x5000#16 && t.sp == 0x01F6#16 && t.ccr.i && decide (t.runState = .run)) = true := by decide

/-- With X = 1 a level of XIRQ held since STOP was entered does not end STOP, an edge does, without a trap
(92_eei_decisions.md D15 for R403). -/
theorem test_stop_xirq_edge :
    (gives { asked .stop true true true [] with xirqHeld := true } fun t =>
      decide (t.runState = .stop) && t.xirqHeld) = true ∧
    (gives { asked .stop true true false [] with xirqHeld := true } fun t =>
      decide (t.runState = .stop) && !t.xirqHeld) = true ∧
    (gives (asked .stop true true true []) fun t =>
      decide (t.runState = .run) && t.pc == 0x1000#16 && t.sp == start.sp) = true := by decide

/-- A reset from STOP: S, X, I set, PC from $FFFE, the request served (70_reset_and_hazards.md R460). -/
theorem test_reset_from_stop :
    (gives { placed { start with runState := .stop, ccr := { start.ccr with s := false } } [(0xFFFE#16, 0xE0#8)] [] with
      resets := { pin := true, clockMonitor := false, cop := false } } fun t =>
      t.pc == 0xE000#16 && t.ccr.s && t.ccr.x && t.ccr.i && decide (t.runState = .run) && !t.resets.pin) = true := by
  decide

/-! ### Witnesses: for each statement with hypotheses, states and operands that meet them, each clause at a boundary.
Where the hypothesis is only that memory is in canonical form, `witness_canonical_memory` meets it. -/

/-- Meets the hypothesis of ShiftLeftResult, ShiftRightResult, RotateResult, ComplementResult,
IncrementDecrementResult, ClearAndTestResult, BitClearAndSetResult, StoreResult, PushPullResult,
JumpAndSubroutineResult, TrapEntry, SoftwareInterrupt and WaitForInterrupt; the memory lists the last address. -/
theorem witness_canonical_memory : (placed start [(0x0000#16, 1#8), (0xFFFF#16, 0x80#8)] [0x3F#8]).mem.wf = true := by
  decide

theorem witness_DecodeOfEncode : (Instr.brset (.indY 0xFF#8) 0xFF#8 0x80#8).WellFormed := by decide

theorem witness_EncodeOfDecode :
    decode [0x18#8, 0x1E#8, 0xFF#8, 0xFF#8, 0x80#8, 0x3F#8] = .ok (.brset (.indY 0xFF#8) 0xFF#8 0x80#8) [0x3F#8] := by
  decide

/-- A map with all four kinds: IO at $1000 to $103F, nothing at $2000 to $2FFF, ROM from $E000 up, RAM elsewhere. -/
def mapped : State :=
  { start with
    mem := [(0xFFFE, 0xE0#8)]
    memMap := [{ base := 0x1000, size := 0x40, kind := .io }, { base := 0x2000, size := 0x1000, kind := .unmapped },
               { base := 0xE000, size := 0x2000, kind := .rom }] }

theorem witness_MemoryKinds :
    (mapped.kind 0x0000#16 = .ram ∧ mapped.kind 0x0FFF#16 = .ram ∧ mapped.mem.wf = true) ∧
    (mapped.kind 0xE000#16 = .rom ∧ mapped.kind 0xFFFF#16 = .rom) ∧
    (mapped.kind 0x2000#16 = .unmapped ∧ mapped.kind 0x2FFF#16 = .unmapped) ∧
    (mapped.kind 0x1000#16 = .io ∧ mapped.kind 0x103F#16 = .io) := by decide

theorem witness_OperandValues :
    Storage mapped 0xFFFF#16 ∧ Storage mapped (0xFFFF#16 + 1#16) := ⟨Or.inr (by decide), Or.inl (by decide)⟩

/-- Meets the condition NoIO inside OnlyReads and StoresOnly, on both sides of the device's addresses; the device's
own first and last address do not meet it. -/
theorem witness_NoIO :
    NoIO mapped [0x0FFF#16, 0x1040#16] ∧ ¬ NoIO mapped [0x1000#16] ∧ ¬ NoIO mapped [0x103F#16] :=
  ⟨.cons (by decide) (.cons (by decide) (.nil _)), fun h => h _ List.mem_cons_self (by decide),
    fun h => h _ List.mem_cons_self (by decide)⟩

theorem witness_WordByteOrder :
    start.mem.wf = true ∧ start.kind 0xFFFF#16 = .ram ∧ start.kind (0xFFFF#16 + 1#16) = .ram := by decide

theorem witness_PushAndPull : ∃ h t l u, pull8 start = (h, t) ∧ pull8 t = (l, u) := ⟨_, _, _, _, rfl, rfl⟩

theorem witness_DivideResult :
    ({ start with ix := 0#16 } : State).ix = 0#16 ∧ ({ start with ix := 1#16 } : State).ix ≠ 0#16 ∧
    ({ start with b := 1#8, ix := 1#16 } : State).ix.toNat ≤ ({ start with b := 1#8, ix := 1#16 } : State).d.toNat ∧
    ({ start with b := 1#8, ix := 2#16 } : State).d.toNat < ({ start with b := 1#8, ix := 2#16 } : State).ix.toNat := by
  decide

theorem witness_DecimalAdjustResult :
    (99 < 100) ∧ ({ start with a := 0x99#8, ccr := { start.ccr with c := true } } : State).a = packedDecimal 99 ∧
    ({ start with a := 0x00#8 } : State).a = packedDecimal 0 := by decide

theorem witness_FlagInstructions :
    start.ccr.i = true ∧ ({ start with ccr := { start.ccr with i := false } } : State).ccr.i = false := by decide

theorem witness_ReturnAfterCall :
    start.mem.wf = true ∧ start.kind start.sp = .ram ∧ start.kind (start.sp - 1#16) = .ram := by decide

/-- Meets the hypotheses of TrapEntry, SoftwareInterrupt and the first part of StepInWait, at both ends of the
table. -/
theorem witness_trap_vectors :
    Storage mapped (vector .illegalOpcode) ∧ Storage mapped (vector .illegalOpcode + 1#16) ∧
    Storage mapped 0xFFF6#16 ∧ Storage mapped 0xFFF7#16 ∧ mapped.mem.wf = true ∧
    Storage mapped (vector (.irq .sci)) ∧ Storage mapped (vector (.irq .sci) + 1#16) :=
  ⟨Or.inr (by decide), Or.inr (by decide), Or.inr (by decide), Or.inr (by decide), by decide,
    Or.inr (by decide), Or.inr (by decide)⟩

/-- Meets the condition of StoresOnly in TrapEntry, SoftwareInterrupt and WaitForInterrupt, for a frame across the
bottom of the address space. -/
theorem witness_frame_off_devices :
    NoIO mapped ((frameBytes 0x1234#16 mapped).map Prod.fst ++ [0xFFF6#16, 0xFFF7#16]) :=
  .cons (by decide) <| .cons (by decide) <| .cons (by decide) <| .cons (by decide) <| .cons (by decide) <|
    .cons (by decide) <| .cons (by decide) <| .cons (by decide) <| .cons (by decide) <| .cons (by decide) <|
    .cons (by decide) <| .nil _

theorem witness_ReturnFromInterrupt :
    ∃ t c b a xh xl yh yl ph pl, readRun 9 (start.sp + 1#16) start = ([c, b, a, xh, xl, yh, yl, ph, pl], t) :=
  ⟨_, _, _, _, _, _, _, _, _, _, rfl⟩

/-- The frame crosses the bottom of the address space. -/
theorem witness_ReturnUndoesTrap :
    start.mem.wf = true ∧ (∀ n < 9, start.kind (start.sp - BitVec.ofNat 16 n) = .ram) ∧
    NoIO start [vector .illegalOpcode, vector .illegalOpcode + 1#16] ∧
    NoIO start [vector (.irq .sci), vector (.irq .sci) + 1#16] :=
  ⟨by decide, by decide, .cons (by decide) (.cons (by decide) (.nil _)),
    .cons (by decide) (.cons (by decide) (.nil _))⟩

theorem witness_StopAndTest :
    start.ccr.s = true ∧ ({ start with ccr := { start.ccr with s := false } } : State).ccr.s = false ∧
    ({ start with testMode := true } : State).testMode = true ∧ start.testMode = false := by decide

/-- Two bytes across the top of the address space. -/
theorem witness_StepRunsDecoded :
    nextEvent (placed { start with pc := 0xFFFF#16 } [] [0x8B#8, 0x01#8]) = .execute ∧
    CodeAt (placed { start with pc := 0xFFFF#16 } [] [0x8B#8, 0x01#8]) 0xFFFF#16 [0x8B#8, 0x01#8] ∧
    decode [0x8B#8, 0x01#8] = .ok (.adda (.imm 0x01#8)) [] :=
  ⟨by decide, ⟨Or.inl (by decide), by decide, Or.inl (by decide), by decide, trivial⟩, by decide⟩

theorem witness_UndefinedOpcodeTraps :
    nextEvent (placed start [] [0x41#8]) = .execute ∧ CodeAt (placed start [] [0x41#8]) 0x1000#16 [0x41#8] ∧
    decode [0x41#8] = .undefinedOpcode .page0 0x41#8 ∧
    nextEvent (placed start [] [0xCD#8, 0x18#8]) = .execute ∧
    CodeAt (placed start [] [0xCD#8, 0x18#8]) 0x1000#16 [0xCD#8, 0x18#8] ∧
    decode [0xCD#8, 0x18#8] = .undefinedOpcode .page3 0x18#8 ∧ prebyte 0xCD#8 = some .page3 :=
  ⟨by decide, ⟨Or.inl (by decide), by decide, trivial⟩, by decide, by decide,
    ⟨Or.inl (by decide), by decide, Or.inl (by decide), by decide, trivial⟩, by decide, by decide⟩

/-- A requested reset; XIRQ let through; an inhibited boundary; the last line of the order let through; the same
masked by I; nothing asked with I clear. -/
theorem witness_StepInRun :
    let hit := asked .run true false true [.sci]
    (let s : State := { start with resets := { pin := false, clockMonitor := false, cop := true } }
     s.runState = .run ∧ requestedReset s.resets = some .cop) ∧
    (let s := asked .run false true true [.sci]
     s.runState = .run ∧ requestedReset s.resets = none ∧ s.pending.xirq = true ∧ s.ccr.x = false) ∧
    (let s := { hit with irqInhibit := true }
     s.runState = .run ∧ requestedReset s.resets = none ∧ s.ccr.x = true ∧ s.irqInhibit = true) ∧
    (hit.runState = .run ∧ requestedReset hit.resets = none ∧ hit.ccr.x = true ∧ hit.irqInhibit = false ∧
      hit.ccr.i = false ∧ hit.irqLines = defaultIrqLines.take 14 ++ .sci :: [] ∧ .sci ∈ hit.pending.irqs ∧
      ∀ e ∈ defaultIrqLines.take 14, e ∉ hit.pending.irqs) ∧
    (let s := asked .run true true true [.sci]
     s.runState = .run ∧ requestedReset s.resets = none ∧ s.ccr.x = true ∧ s.irqInhibit = false ∧ s.ccr.i = true) ∧
    (let s := asked .run false false false []
     s.runState = .run ∧ requestedReset s.resets = none ∧ s.pending.xirq = false ∧ s.irqInhibit = false ∧
      ∀ l ∈ s.irqLines, l ∉ s.pending.irqs) := by decide

/-- XIRQ let through; the first line of the order let through; a line masked by I; nothing asked. -/
theorem witness_StepInWait :
    (let s := asked .wait false true true []
     s.runState = .wait ∧ requestedReset s.resets = none ∧ s.pending.xirq = true ∧ s.ccr.x = false) ∧
    (let s := asked .wait true false true [.irq, .sci]
     s.runState = .wait ∧ requestedReset s.resets = none ∧ s.ccr.x = true ∧ s.ccr.i = false ∧
      s.irqLines = [] ++ .irq :: defaultIrqLines.tail ∧ .irq ∈ s.pending.irqs) ∧
    (let s := asked .wait true true true [.irq]
     s.runState = .wait ∧ requestedReset s.resets = none ∧ s.ccr.x = true ∧ s.ccr.i = true) ∧
    (let s := asked .wait false false false []
     s.runState = .wait ∧ requestedReset s.resets = none ∧ s.pending.xirq = false ∧
      ∀ l ∈ s.irqLines, l ∉ s.pending.irqs) := by decide

/-- XIRQ with X clear; its edge with X set, with and without the IRQ pin; its held level with X set, the pin let through
and masked; the pin let through; the pin masked, not a line of the platform, not asked. -/
theorem witness_StepInStop :
    (let s := asked .stop false true true []
     s.runState = .stop ∧ requestedReset s.resets = none ∧ s.pending.xirq = true ∧ s.ccr.x = false) ∧
    (let s := asked .stop true true true []
     s.runState = .stop ∧ requestedReset s.resets = none ∧ s.pending.xirq = true ∧ s.ccr.x = true ∧
      s.xirqHeld = false) ∧
    (let s := asked .stop true false true [.irq]
     s.runState = .stop ∧ requestedReset s.resets = none ∧ s.pending.xirq = true ∧ s.ccr.x = true ∧
      s.xirqHeld = false) ∧
    (let s : State := { asked .stop true false true [.irq] with xirqHeld := true }
     s.runState = .stop ∧ requestedReset s.resets = none ∧ s.ccr.x = true ∧ s.xirqHeld = true ∧ s.ccr.i = false ∧
      .irq ∈ s.irqLines ∧ .irq ∈ s.pending.irqs) ∧
    (let s : State := { asked .stop true true true [] with xirqHeld := true }
     s.runState = .stop ∧ requestedReset s.resets = none ∧ s.ccr.x = true ∧ s.xirqHeld = true ∧ s.ccr.i = true) ∧
    (let s := asked .stop true false false [.irq]
     s.runState = .stop ∧ requestedReset s.resets = none ∧ s.pending.xirq = false ∧ s.ccr.i = false ∧
      .irq ∈ s.irqLines ∧ .irq ∈ s.pending.irqs) ∧
    (let s := asked .stop true true false [.irq]
     s.runState = .stop ∧ requestedReset s.resets = none ∧ s.pending.xirq = false ∧ s.ccr.i = true) ∧
    (let s := asked .stop true false false [.sci]
     s.runState = .stop ∧ requestedReset s.resets = none ∧ s.pending.xirq = false ∧ .irq ∉ s.pending.irqs) := by
  decide

/-- S = 0, X = I = 1, XIRQ asserted and not. -/
theorem witness_StopEndsByXirqEdge :
    ∀ p, ∃ t, let s := asked .run true true p []
      exec .stop { s with ccr := { s.ccr with s := false } } = .next t ∧ s.ccr.x = true ∧ s.ccr.i = true ∧
      requestedReset s.resets = none ∧ s.pending.xirq = p :=
  fun p => by cases p <;> exact ⟨_, rfl, by decide, by decide, by decide, by decide⟩

theorem witness_ResetTaken :
    let r (p m c : Bool) : State := { start with resets := { pin := p, clockMonitor := m, cop := c } }
    (r true true true).resets.pin = true ∧
    ((r false true true).resets.pin = false ∧ (r false true true).resets.clockMonitor = true) ∧
    ((r false false true).resets.clockMonitor = false ∧ (r false false true).resets.cop = true) ∧
    ({ start with runState := .testHang } : State).runState = .testHang ∧ start.resets.pin = false ∧
    start.resets.clockMonitor = false ∧ start.resets.cop = false := by decide

theorem witness_ResetEffect :
    Storage mapped (resetVector .pin) ∧ Storage mapped (resetVector .pin + 1#16) ∧
    Storage mapped (resetVector .cop) ∧ Storage mapped (resetVector .cop + 1#16) ∧
    NoIO mapped [resetVector .pin, resetVector .pin + 1#16] :=
  ⟨Or.inr (by decide), Or.inr (by decide), Or.inr (by decide), Or.inr (by decide),
    .cons (by decide) (.cons (by decide) (.nil _))⟩

/-- CLI, then NOP, with the last line pending. -/
theorem witness_ClearedMaskDelay :
    ∃ s t u l, s.runState = .run ∧ s.ccr.i = true ∧ s.ccr.x = true ∧ requestedReset s.resets = none ∧
      exec .cli s = .next t ∧ step t = .next u ∧
      u.runState = .run ∧ requestedReset u.resets = none ∧ u.ccr.x = true ∧ u.ccr.i = false ∧
      u.irqInhibit = false ∧ l ∈ u.irqLines ∧ l ∈ u.pending.irqs :=
  ⟨placed (asked .run true true false [.sci]) [] [0x01#8], _, _, .sci, by decide, by decide, by decide, by decide,
    rfl, rfl, by decide, by decide, by decide, by decide, by decide, by decide, by decide⟩

theorem witness_StepKeepsInv : Inv State.reset ∧ ∃ t, step State.reset = .next t :=
  ⟨⟨by decide, by decide, by decide, by decide⟩, _, rfl⟩

theorem witness_XOnlyCleared :
    (∃ t, exec .nop start = .next t ∧ t.ccr.x = true) ∧
    (∃ t, step (asked .run false true true []) = .next t ∧ (asked .run false true true []).ccr.x = false ∧
      t.ccr.x = true) ∧ start.ccr.x = true :=
  ⟨⟨_, rfl, by decide⟩, ⟨_, rfl, by decide, by decide⟩, by decide⟩

theorem witness_MaskBitWriters :
    (∃ t, exec .tap start = .next t ∧ t.ccr.s ≠ start.ccr.s) ∧
    (∃ t, exec (.adda (.imm 0x08#8)) { start with a := 0x08#8 } = .next t ∧ t.ccr.h ≠ start.ccr.h) ∧
    (∃ t, exec .cli start = .next t ∧ start.ccr.i = true ∧ t.ccr.i = false ∧ start.irqInhibit = false ∧
      t.irqInhibit = true) ∧
    (∃ t, exec .sei (asked .run true false false []) = .next t ∧ (asked .run true false false []).ccr.i = false ∧
      t.ccr.i = true) :=
  ⟨⟨_, rfl, by decide⟩, ⟨_, rfl, by decide⟩, ⟨_, rfl, by decide, by decide, by decide, by decide⟩,
    ⟨_, rfl, by decide, by decide⟩⟩

theorem witness_StepKeepsRomAndMap :
    ({ mapped with pc := 0x3000#16 } : State).mem.wf = true ∧
    (∃ t, step { mapped with pc := 0x3000#16 } = .next t) ∧
    ({ mapped with pc := 0x3000#16 } : State).kind 0xFFFE#16 ≠ .ram :=
  ⟨by decide, ⟨_, rfl⟩, by decide⟩

/-- `BRA *` and `JMP *`, WAIT with nothing let through, STOP with a held and with a withdrawn XIRQ. -/
theorem witness_FinalStatesStay :
    Final (placed start [] [0x20#8, 0xFE#8]) ∧ Final (placed start [] [0x7E#8, 0x10#8, 0x00#8]) ∧
    Final (asked .wait true true true [.irq]) ∧
    Final { asked .stop true true true [.irq] with xirqHeld := true } ∧
    Final { asked .stop true true false [.irq] with xirqHeld := true } :=
  ⟨Or.inl ⟨by decide, by decide, ⟨by decide, by decide, by decide⟩,
      Or.inl ⟨Or.inl (by decide), by decide, Or.inl (by decide), by decide, trivial⟩⟩,
    Or.inl ⟨by decide, by decide, ⟨by decide, by decide, by decide⟩,
      Or.inr ⟨Or.inl (by decide), by decide, Or.inl (by decide), by decide, Or.inl (by decide), by decide, trivial⟩⟩,
    Or.inr ⟨by decide, by decide⟩, Or.inr ⟨by decide, by decide⟩, Or.inr ⟨by decide, by decide⟩⟩

end Sys2Proof.Tests
end

section
/-! Proofs. Pushes and pulls (00_scope.md R5, R6). -/

namespace Sys2Proof.Proofs

open Sys2Proof.Machine

/-- R5: no access moves SP, a device's effect included, so a push ends one below the SP it wrote at. -/
theorem push8_eq_writeByte_then_decrement (v : Byte) (s : State) :
    push8 v s = { writeByte s.sp v s with sp := s.sp - 1#16 } := by
  have unmoved : (writeByte s.sp v s).sp = s.sp := writeByte_sp s.sp v s
  simp only [push8, State.setSP, unmoved]

/-- R6: two byte pulls, one from the state the other leaves, give the high half and then the low half. -/
theorem pull16_eq_of_pull8_pull8 {s t u : State} {h l : Byte} (first : pull8 s = (h, t))
    (second : pull8 t = (l, u)) : pull16 s = (h ++ l, u) := by
  simp only [pull16, first, second, join]

/-- Settles O9: a byte push by the rule that no access moves SP, a word pull from its two byte pulls; the word
push and the byte pull are the model's definitions. -/
theorem pushAndPull : Obligations.PushAndPull := by
  intro s b w
  refine ⟨push8_eq_writeByte_then_decrement b s, ?wordPush, ?bytePull, ?wordPull⟩
  case wordPush => rfl
  case bytePull => rfl
  case wordPull => exact fun _ _ _ _ first second => pull16_eq_of_pull8_pull8 first second

end Sys2Proof.Proofs
end

section
/-! Proofs. What an instruction may do to the masks, H, the inhibit and the run state, said once for all of them,
and what a step may do; from these the rules of the whole machine about X, S, H, I and the inhibit, and the
invariant (10_state.md R32 to R35, R40; 47_interrupt_special.md R403, R404). -/

namespace Sys2Proof.Proofs

open Sys2Proof.Machine

/-! ### What leaves the control state alone -/

/-- S, X and I are those of `f`, and so is H unless `half`. -/
structure FlagFrame (half : Prop) (f g : Ccr) : Prop where
  s : g.s = f.s
  x : g.x = f.x
  i : g.i = f.i
  h : half ∨ g.h = f.h

theorem FlagFrame.refl {half : Prop} (f : Ccr) : FlagFrame half f f := ⟨rfl, rfl, rfl, .inr rfl⟩

theorem FlagFrame.trans {half : Prop} {f g k : Ccr} (p : FlagFrame half f g) (q : FlagFrame half g k) :
    FlagFrame half f k :=
  ⟨q.s.trans p.s, q.x.trans p.x, q.i.trans p.i, p.h.elim .inl fun hp => q.h.imp_right fun hq => hq.trans hp⟩

/-- The flags of an operation that writes no more than N, Z, V and C. -/
theorem FlagFrame.kept {half : Prop} {f g : Ccr} (s : g.s = f.s := by rfl) (x : g.x = f.x := by rfl)
    (i : g.i = f.i := by rfl) (h : g.h = f.h := by rfl) : FlagFrame half f g :=
  ⟨s, x, i, .inr h⟩

/-- The flags of an 8-bit addition: H may change too (00_scope.md R8). -/
theorem FlagFrame.addFlags8 {half : Prop} (w : half) (a m : Byte) (c : Bool) (f : Ccr) :
    FlagFrame half f (addFlags8 a m c f) :=
  ⟨rfl, rfl, rfl, .inl w⟩

/-- `t` differs from `s` in data registers, in N, Z, V, C, in H if `half`, and in what accesses may change: S, X, I,
the run state and the inhibit are those of `s`. -/
structure Keeps (half : Prop) (s t : State) : Prop where
  accessed : Accessed s t
  flags : FlagFrame half s.ccr t.ccr
  runState : t.runState = s.runState
  irqInhibit : t.irqInhibit = s.irqInhibit

section Keeps

variable {half : Prop} {s t u : State}

theorem Keeps.refl (s : State) : Keeps half s s := ⟨.refl s, .refl _, rfl, rfl⟩

theorem Keeps.trans (p : Keeps half s t) (q : Keeps half t u) : Keeps half s u :=
  ⟨p.accessed.trans q.accessed, p.flags.trans q.flags, q.runState.trans p.runState,
    q.irqInhibit.trans p.irqInhibit⟩

/-- Whatever only accesses memory and devices. -/
theorem Keeps.of_onlyAccess (p : OnlyAccess s t) : Keeps half s t := by
  refine ⟨p.accessed, ?flags, ?runState, ?irqInhibit⟩
  case flags => rw [p.fields]; exact .refl _
  case runState => rw [p.fields]
  case irqInhibit => rw [p.fields]

/-- A write of data registers and of flags may follow. -/
theorem Keeps.update (p : Keeps half s t) (f : FlagFrame half t.ccr u.ccr := by exact .kept)
    (e : u = t.withRegisters u := by rfl) (r : u.runState = t.runState := by rfl)
    (q : u.irqInhibit = t.irqInhibit := by rfl) : Keeps half s u :=
  p.trans ⟨(Accessed.refl t).update e, f, r, q⟩

/-- What writes data registers and flags only. -/
theorem Keeps.of_registers (f : FlagFrame half s.ccr t.ccr := by exact .kept)
    (e : t = s.withRegisters t := by rfl) (r : t.runState = s.runState := by rfl)
    (q : t.irqInhibit = s.irqInhibit := by rfl) : Keeps half s t :=
  (Keeps.refl s).update f e r q

theorem Keeps.setDraws (p : Keeps half s t) (n : Nat) : Keeps half s (t.setDraws n) :=
  p.trans (.of_onlyAccess ⟨rfl, fun _ _ => rfl, id⟩)

end Keeps

/-! ### The shared shapes and the operations -/

section Shapes

variable {half : Prop}

theorem readByte_keeps (a : Word) (s : State) : Keeps half s (readByte a s).2 :=
  .of_onlyAccess (readByte_onlyAccess a s)

theorem operand8_keeps (o : Src8) (s : State) : Keeps half s (operand8 o s).2 :=
  .of_onlyAccess (operand8_onlyReads o s).access

theorem operand16_keeps (o : Src16) (s : State) : Keeps half s (operand16 o s).2 :=
  .of_onlyAccess (operand16_onlyReads o s).access

theorem aluA_keeps {op : AluOp8} (f : ∀ a m c, FlagFrame half c (op.flags a m c)) (o : Src8) (s : State) :
    Keeps half s (aluA op o s) :=
  (operand8_keeps o s).update (f _ _ _)

theorem aluB_keeps {op : AluOp8} (f : ∀ a m c, FlagFrame half c (op.flags a m c)) (o : Src8) (s : State) :
    Keeps half s (aluB op o s) :=
  (operand8_keeps o s).update (f _ _ _)

theorem aluD_keeps {op : AluOp16} (f : ∀ a m c, FlagFrame half c (op.flags a m c)) (o : Src16) (s : State) :
    Keeps half s (aluD op o s) :=
  (operand16_keeps o s).update (f _ _ _)

theorem testA_keeps {op : AluOp8} (f : ∀ a m c, FlagFrame half c (op.flags a m c)) (o : Src8) (s : State) :
    Keeps half s (testA op o s) :=
  (operand8_keeps o s).update (f _ _ _)

theorem testB_keeps {op : AluOp8} (f : ∀ a m c, FlagFrame half c (op.flags a m c)) (o : Src8) (s : State) :
    Keeps half s (testB op o s) :=
  (operand8_keeps o s).update (f _ _ _)

theorem compare16_keeps (r : Word) (o : Src16) (s : State) : Keeps half s (compare16 r o s) :=
  (operand16_keeps o s).update

theorem testByte_keeps (o : Addr) (s : State) : Keeps half s (testByte o s) := (readByte_keeps _ s).update

theorem modify_keeps {op : UnaryOp} (f : ∀ m c, FlagFrame half c (op.flags m c)) (o : Addr) (s : State) :
    Keeps half s (Machine.modify op o s) :=
  ((readByte_keeps _ s).update (u := (readByte (ea o s) s).2.setCcr _) (f _ _)).trans
    (.of_onlyAccess (writeByte_onlyAccess _ _ _))

theorem store8_keeps (v : Byte) (o : Addr) (s : State) : Keeps half s (store8 v o s) :=
  (Keeps.of_registers (t := s.setCcr (logic8 v s.ccr))).trans (.of_onlyAccess (writeByte_onlyAccess _ _ _))

theorem store16_keeps (v : Word) (o : Addr) (s : State) : Keeps half s (store16 v o s) :=
  (Keeps.of_registers (t := s.setCcr (logic16 v s.ccr))).trans (.of_onlyAccess (writeWord_onlyAccess _ _ _))

theorem branchIf_keeps (taken : Bool) (rr : Byte) (s : State) : Keeps half s (branchIf taken rr s) := by
  cases taken with
  | true => exact .of_registers
  | false => exact .refl s

theorem branchOnBits_keeps (test : Byte → Bool) (o : BitAddr) (rr : Byte) (s : State) :
    Keeps half s (branchOnBits test o rr s) :=
  (readByte_keeps _ s).trans (branchIf_keeps _ rr _)

theorem push8_keeps (v : Byte) (s : State) : Keeps half s (push8 v s) :=
  (Keeps.of_registers (t := { s with sp := s.sp - 1#16 })).trans (.of_onlyAccess (push8_onlyAccess v s))

theorem push16_keeps (v : Word) (s : State) : Keeps half s (push16 v s) :=
  (push8_keeps (lo v) s).trans (push8_keeps (hi v) _)

theorem pull8_keeps (s : State) : Keeps half s (pull8 s).2 :=
  (Keeps.of_registers (t := { s with sp := s.sp + 1#16 })).trans (.of_onlyAccess (pull8_onlyReads s).access)

theorem pull16_keeps (s : State) : Keeps half s (pull16 s).2 := (pull8_keeps s).trans (pull8_keeps _)

theorem decimalAdjust_keeps (s : State) : Keeps half s (decimalAdjust s) := Keeps.setDraws .of_registers _

/-- A division writes IX, D and flags. -/
theorem divided_keeps {s : State} {f : Ccr} (k : FlagFrame half s.ccr f) (quotient remainder : Word) :
    Keeps half s (((s.setIX quotient).setD remainder).setCcr f) :=
  .of_registers k

theorem integerDivide_keeps (s : State) : Keeps half s (integerDivide s) := by
  unfold integerDivide
  split
  · exact (divided_keeps .kept _ _).setDraws _
  · exact divided_keeps .kept _ _

theorem fractionalDivide_keeps (s : State) : Keeps half s (fractionalDivide s) := by
  unfold fractionalDivide
  split
  · exact (divided_keeps .kept _ _).setDraws _
  · exact divided_keeps .kept _ _

theorem fetchInstr_keeps (s : State) : Keeps half s (fetchInstr s).2 :=
  (Keeps.of_registers (t := { s with pc := (fetchInstr s).2.pc })).trans (.of_onlyAccess (fetchInstr_onlyAccess s))

end Shapes

/-! ### What an instruction may do -/

/-- The instructions other than TAP and RTI that write H (10_state.md R33). -/
def WritesHalf (i : Instr) : Prop :=
  (∃ o, i = .adda o ∨ i = .addb o ∨ i = .adca o ∨ i = .adcb o) ∨ i = .aba

/-- What each instruction leaves of the control state: nearly all keep it, H apart; the others are named with the
state they end in. -/
inductive ControlEffect (s : State) : Instr → State → Prop
  | keeps {i : Instr} {t : State} (k : Keeps (WritesHalf i) s t) : ControlEffect s i t
  | cli : ControlEffect s .cli ((s.setIrqInhibit (s.ccr.i || s.irqInhibit)).setCcr { s.ccr with i := false })
  | sei : ControlEffect s .sei (s.setCcr { s.ccr with i := true })
  | tap : ControlEffect s .tap
      ((s.setIrqInhibit ((s.ccr.i && !s.a.getLsbD 4) || s.irqInhibit)).setCcr (s.ccr.load s.a))
  | rti : ControlEffect s .rti (returnFromTrap s)
  | trap {i : Instr} {k : Trap} {ret : Word} (raised : i = .swi ∨ i = .test) (notXirq : k ≠ .xirq) :
      ControlEffect s i (trap k ret s)
  | wai : ControlEffect s .wai ((pushFrame s.pc s).setRunState .wait)
  | stop (enabled : s.ccr.s = false) :
      ControlEffect s .stop ((s.setRunState .stop).setXirqHeld s.pending.xirq)
  | test (mode : s.testMode = true) : ControlEffect s .test (s.setRunState .testHang)

/-- Every instruction answers a next state, and what that may be. -/
theorem exec_next_controlEffect (i : Instr) (s : State) : ∃ t, exec i s = .next t ∧ ControlEffect s i t := by
  cases i with
  | adda o | adca o =>
    exact ⟨_, rfl, .keeps (aluA_keeps (fun _ _ _ => .addFlags8 (by simp [WritesHalf]) _ _ _ _) o s)⟩
  | addb o | adcb o =>
    exact ⟨_, rfl, .keeps (aluB_keeps (fun _ _ _ => .addFlags8 (by simp [WritesHalf]) _ _ _ _) o s)⟩
  | aba => exact ⟨_, rfl, .keeps (.of_registers (.addFlags8 (.inr rfl) _ _ _ _))⟩
  | sbca o | suba o | anda o | eora o | oraa o | ldaa o =>
    exact ⟨_, rfl, .keeps (aluA_keeps (fun _ _ _ => .kept) o s)⟩
  | sbcb o | subb o | andb o | eorb o | orab o | ldab o =>
    exact ⟨_, rfl, .keeps (aluB_keeps (fun _ _ _ => .kept) o s)⟩
  | addd o | subd o => exact ⟨_, rfl, .keeps (aluD_keeps (fun _ _ _ => .kept) o s)⟩
  | bita o | cmpa o => exact ⟨_, rfl, .keeps (testA_keeps (fun _ _ _ => .kept) o s)⟩
  | bitb o | cmpb o => exact ⟨_, rfl, .keeps (testB_keeps (fun _ _ _ => .kept) o s)⟩
  | cpd o | cpx o | cpy o => exact ⟨_, rfl, .keeps (compare16_keeps _ o s)⟩
  | tst o => exact ⟨_, rfl, .keeps (testByte_keeps _ s)⟩
  | asl o | asr o | lsl o | lsr o | rol o | ror o | com o | neg o | dec o | inc o | clr o =>
    exact ⟨_, rfl, .keeps (modify_keeps (fun _ _ => .kept) (rmwAddr o) s)⟩
  | bclr o mm | bset o mm => exact ⟨_, rfl, .keeps (modify_keeps (fun _ _ => .kept) (bitAddr o) s)⟩
  | ldd o | lds o | ldx o | ldy o => exact ⟨_, rfl, .keeps (operand16_keeps o s).update⟩
  | staa o | stab o => exact ⟨_, rfl, .keeps (store8_keeps _ o s)⟩
  | std o | sts o | stx o | sty o => exact ⟨_, rfl, .keeps (store16_keeps _ o s)⟩
  | psha | pshb => exact ⟨_, rfl, .keeps (push8_keeps _ s)⟩
  | pshx | pshy => exact ⟨_, rfl, .keeps (push16_keeps _ s)⟩
  | pula | pulb => exact ⟨_, rfl, .keeps (pull8_keeps s).update⟩
  | pulx | puly | rts => exact ⟨_, rfl, .keeps (pull16_keeps s).update⟩
  | bsr _ | jsr _ => exact ⟨_, rfl, .keeps (push16_keeps s.pc s).update⟩
  | bcc rr | bcs rr | beq rr | bne rr | bmi rr | bpl rr | bvc rr | bvs rr | bhi rr | bhs rr | blo rr | bls rr
  | bge rr | bgt rr | ble rr | blt rr | bra rr => exact ⟨_, rfl, .keeps (branchIf_keeps _ rr s)⟩
  | brclr o mm rr | brset o mm rr => exact ⟨_, rfl, .keeps (branchOnBits_keeps _ o rr s)⟩
  | daa => exact ⟨_, rfl, .keeps (decimalAdjust_keeps s)⟩
  | idiv => exact ⟨_, rfl, .keeps (integerDivide_keeps s)⟩
  | fdiv => exact ⟨_, rfl, .keeps (fractionalDivide_keeps s)⟩
  | nop | brn _ => exact ⟨_, rfl, .keeps (.refl s)⟩
  | jmp o => exact ⟨_, rfl, .keeps .of_registers⟩
  | abx | aby | sba | mul | cba | tsta | tstb
  | asla | aslb | asld | asra | asrb | lsla | lslb | lsld | lsra | lsrb | lsrd | rola | rolb | rora | rorb
  | coma | comb | nega | negb | deca | decb | des | dex | dey | inca | incb | ins | inx | iny | clra | clrb
  | clc | clv | sec | sev | tab | tba | tpa | tsx | tsy | txs | tys | xgdx | xgdy =>
    exact ⟨_, rfl, .keeps .of_registers⟩
  | cli => exact ⟨_, rfl, .cli⟩
  | sei => exact ⟨_, rfl, .sei⟩
  | tap => exact ⟨_, rfl, .tap⟩
  | rti => exact ⟨_, rfl, .rti⟩
  | swi => exact ⟨_, rfl, .trap (.inl rfl) (by decide)⟩
  | wai => exact ⟨_, rfl, .wai⟩
  | stop =>
    refine ⟨_, rfl, ?_⟩
    split
    · exact .keeps (.refl s)
    · next enabled => exact .stop (Bool.not_eq_true _ ▸ enabled)
  | test =>
    refine ⟨_, rfl, ?_⟩
    split
    · next mode => exact .test mode
    · exact .trap (.inr rfl) (by decide)

/-- Whatever next state an instruction answers is of the kind its `ControlEffect` names. -/
theorem exec_controlEffect {i : Instr} {s t : State} (h : exec i s = .next t) : ControlEffect s i t := by
  obtain ⟨u, hu, effect⟩ := exec_next_controlEffect i s
  cases hu.symm.trans h
  exact effect

/-! ### Traps, the return from them, and resets -/

theorem trap_ccr (k : Trap) (ret : Word) (s : State) : (trap k ret s).ccr = trapMasks k s.ccr := by simp [trap]

theorem trap_runState (k : Trap) (ret : Word) (s : State) : (trap k ret s).runState = .run := by simp [trap]

theorem trap_irqInhibit (k : Trap) (ret : Word) (s : State) : (trap k ret s).irqInhibit = false := by simp [trap]

theorem returnFromTrap_ccr (s : State) : (returnFromTrap s).ccr = s.ccr.load (pull8 s).1 := by
  simp [returnFromTrap]

theorem returnFromTrap_runState (s : State) : (returnFromTrap s).runState = s.runState := by simp [returnFromTrap]

theorem returnFromTrap_irqInhibit (s : State) : (returnFromTrap s).irqInhibit = s.irqInhibit := by
  simp [returnFromTrap]

theorem takeReset_runState (k : ResetKind) (s : State) : (takeReset k s).runState = .run := by simp [takeReset]

theorem takeReset_irqInhibit (k : ResetKind) (s : State) : (takeReset k s).irqInhibit = false := by
  simp [takeReset]

/-! ### What a step may do -/

/-- The state in which a step executes: the inhibit cleared, the instruction fetched (60_exceptions.md R423). -/
def fetched (s : State) : State := (fetchInstr (s.setIrqInhibit false)).2

theorem fetched_keeps (s : State) : Keeps False (s.setIrqInhibit false) (fetched s) := fetchInstr_keeps _

/-- What each event of a boundary makes of a state (60_exceptions.md R423, R437). -/
inductive StepEffect (s : State) : Event → State → Prop
  | reset (k : ResetKind) : StepEffect s (.reset k) (takeReset k s)
  | trap (k : Trap) : StepEffect s (.trap k) (trap k s.pc s)
  | wake (k : Trap) : StepEffect s (.wake k) (enterHandler k s)
  | resume : StepEffect s .resume (s.setRunState .run)
  | instruction {i : Instr} {t : State} (h : exec i (fetched s) = .next t) : StepEffect s .execute t
  | illegal (ret : Word) : StepEffect s .execute (Machine.trap .illegalOpcode ret (fetched s))
  | idle : StepEffect s .idle (watchXirq s)

theorem fetched_eq {s u : State} {d : Decoded} (e : fetchInstr (s.setIrqInhibit false) = (d, u)) :
    u = fetched s := by
  rw [fetched, e]

theorem executeOne_stepEffect {s t : State} (h : executeOne (s.setIrqInhibit false) = .next t) :
    StepEffect s .execute t := by
  unfold executeOne at h
  split at h
  case h_1 decoded =>
    rw [fetched_eq decoded] at h
    exact .instruction h
  case h_2 truncated =>
    rw [← Host.Outcome.next.inj h, fetched_eq truncated]
    exact .illegal _
  case h_3 undefinedOpcode =>
    rw [← Host.Outcome.next.inj h, fetched_eq undefinedOpcode]
    exact .illegal _

/-- Whatever a step answers is what its event makes of the state. -/
theorem step_stepEffect {s t : State} (h : step s = .next t) : StepEffect s (nextEvent s) t := by
  unfold step at h
  generalize nextEvent s = event at h ⊢
  cases event with
  | execute => exact executeOne_stepEffect h
  | reset k => exact Host.Outcome.next.inj h ▸ .reset k
  | trap k => exact Host.Outcome.next.inj h ▸ .trap k
  | wake k => exact Host.Outcome.next.inj h ▸ .wake k
  | resume => exact Host.Outcome.next.inj h ▸ .resume
  | idle => exact Host.Outcome.next.inj h ▸ .idle

/-- What a boundary may choose, with what the state must be for it: instructions execute in RUN only, and XIRQ is
taken only where it is pending and X lets it through (60_exceptions.md R423, R428, R437). -/
inductive Chosen (s : State) : Event → Prop
  | reset (k : ResetKind) : Chosen s (.reset k)
  | trapXirq (taken : xirqTaken s = true) : Chosen s (.trap .xirq)
  | wakeXirq (taken : xirqTaken s = true) : Chosen s (.wake .xirq)
  | trapIrq (l : IrqLine) : Chosen s (.trap (.irq l))
  | wakeIrq (l : IrqLine) : Chosen s (.wake (.irq l))
  | resume : Chosen s .resume
  | execute (run : s.runState = .run) : Chosen s .execute
  | idle : Chosen s .idle

theorem nextEvent_chosen (s : State) : Chosen s (nextEvent s) := by
  unfold nextEvent
  split
  · exact .reset _
  · split
    case h_1 run =>
      split
      · next taken => exact .trapXirq taken
      · split
        · exact .execute run
        · split
          · exact .trapIrq _
          · exact .execute run
    case h_2 =>
      split
      · next taken => exact .wakeXirq taken
      · split
        · exact .wakeIrq _
        · exact .idle
    case h_3 =>
      split
      · next taken => exact .trapXirq taken
      · split
        · exact .resume
        · split
          · exact .trapIrq _
          · exact .idle
    case h_4 => exact .idle

/-- Instructions execute in RUN only. -/
theorem runState_of_nextEvent_execute {s : State} (h : nextEvent s = .execute) : s.runState = .run := by
  have chosen := nextEvent_chosen s
  rw [h] at chosen
  cases chosen with
  | execute run => exact run

/-- While X is 1 no boundary chooses XIRQ (10_state.md R34, 60_exceptions.md R428). -/
theorem nextEvent_ne_xirq {s : State} (masked : s.ccr.x = true) :
    nextEvent s ≠ .trap .xirq ∧ nextEvent s ≠ .wake .xirq := by
  have closed : xirqTaken s ≠ true := by simp [xirqTaken, masked]
  have chosen := nextEvent_chosen s
  constructor
  · intro h
    rw [h] at chosen
    cases chosen with
    | trapXirq taken => exact closed taken
  · intro h
    rw [h] at chosen
    cases chosen with
    | wakeXirq taken => exact closed taken

/-! ### X -/

/-- A trap other than XIRQ leaves X (60_exceptions.md R424, R428). -/
theorem trapMasks_x {k : Trap} (notXirq : k ≠ .xirq) (f : Ccr) : (trapMasks k f).x = f.x := by
  simp [trapMasks, notXirq]

/-- TAP and RTI can only clear X (10_state.md R34). -/
theorem x_of_load_x {f : Ccr} {w : Byte} (h : (f.load w).x = true) : f.x = true := by
  simp only [Ccr.load, Bool.and_eq_true] at h
  exact h.1

theorem exec_x_only_cleared {i : Instr} {s t : State} (h : exec i s = .next t) (after : t.ccr.x = true) :
    s.ccr.x = true := by
  cases exec_controlEffect h with
  | keeps k => exact k.flags.x ▸ after
  | cli => exact after
  | sei => exact after
  | tap => exact x_of_load_x after
  | rti => rw [returnFromTrap_ccr] at after; exact x_of_load_x after
  | trap _ notXirq => rwa [trap_ccr, trapMasks_x notXirq] at after
  | wai => rwa [State.setRunState_ccr, pushFrame_ccr] at after
  | stop _ => exact after
  | test _ => exact after

/-- A step that sets X takes a reset or an XIRQ: an instruction does not, and the other events leave X. -/
theorem event_of_step_sets_x {s t : State} (h : step s = .next t) (before : s.ccr.x = false)
    (after : t.ccr.x = true) :
    (∃ k, nextEvent s = .reset k) ∨ nextEvent s = .trap .xirq ∨ nextEvent s = .wake .xirq := by
  have unset : s.ccr.x ≠ true := by simp [before]
  have fetchedX : (fetched s).ccr.x = s.ccr.x := (fetched_keeps s).flags.x
  have effect := step_stepEffect h
  generalize nextEvent s = event at effect ⊢
  cases effect with
  | reset k => exact .inl ⟨k, rfl⟩
  | trap k =>
    by_cases xirq : k = .xirq
    · exact .inr (.inl (by rw [xirq]))
    · rw [trap_ccr, trapMasks_x xirq] at after
      exact absurd after unset
  | wake k =>
    by_cases xirq : k = .xirq
    · exact .inr (.inr (by rw [xirq]))
    · rw [enterHandler_ccr, trapMasks_x xirq] at after
      exact absurd after unset
  | resume => exact absurd after unset
  | instruction executed => exact absurd (fetchedX ▸ exec_x_only_cleared executed after) unset
  | illegal ret =>
    rw [trap_ccr, trapMasks_x (by decide), fetchedX] at after
    exact absurd after unset
  | idle => exact absurd (watchXirq_ccr s ▸ after) unset

/-- Settles O57: from the control effect of every instruction, the effect of every event, and what a boundary may
choose. -/
theorem xOnlyCleared : Obligations.XOnlyCleared :=
  ⟨fun _ _ _ => exec_x_only_cleared, fun _ _ => event_of_step_sets_x, fun _ => nextEvent_ne_xirq⟩

/-! ### S, H, I and the inhibit -/

/-- Settles O58: CLI, SEI, TAP, RTI and the traps by the values they write, every other instruction because it keeps
S, I and the inhibit, and H unless it is an 8-bit addition. -/
theorem maskBitWriters : Obligations.MaskBitWriters := by
  intro i s t h
  cases exec_controlEffect h with
  | keeps k =>
    rw [k.flags.s, k.flags.i, k.irqInhibit]
    refine ⟨by simp, fun changed => ?half, by simp +contextual, by simp +contextual, by simp +contextual⟩
    case half =>
      rcases k.flags.h with (memory | aba) | kept
      · exact .inl memory
      · exact .inr (.inl aba)
      · exact absurd kept changed
  | cli => simp +contextual
  | sei => simp +contextual
  | tap => simp +contextual [Ccr.load]
  | rti => simp +contextual [returnFromTrap_irqInhibit]
  | trap raised _ =>
    rw [trap_ccr, trap_irqInhibit]
    rcases raised with rfl | rfl <;> simp [trapMasks]
  | wai => simp +contextual
  | stop _ => simp +contextual
  | test _ => simp +contextual

/-! ### The invariant -/

/-- In RUN the invariant says nothing of S and of the test mode. -/
theorem inv_of_run {s : State} (memory : s.mem.wf = true) (run : s.runState = .run)
    (inhibited : s.irqInhibit = true → s.ccr.i = false) : Inv s where
  memory := memory
  inhibit h := ⟨run, inhibited h⟩
  stopped h := by simp [run] at h
  hang h := by simp [run] at h

/-- With no inhibit the invariant says nothing of I. -/
theorem inv_of_uninhibited {s : State} (memory : s.mem.wf = true) (uninhibited : s.irqInhibit = false)
    (stopped : s.runState = .stop → s.ccr.s = false) (hang : s.runState = .testHang → s.testMode = true) :
    Inv s where
  memory := memory
  inhibit h := by simp [uninhibited] at h
  stopped := stopped
  hang := hang

/-- The states that a reset, a trap and a wake-up enter. -/
theorem inv_of_run_uninhibited {s : State} (memory : s.mem.wf = true) (run : s.runState = .run)
    (uninhibited : s.irqInhibit = false) : Inv s :=
  inv_of_run memory run fun h => by simp [uninhibited] at h

theorem trap_inv {s : State} (memory : s.mem.wf = true) (k : Trap) (ret : Word) : Inv (trap k ret s) :=
  inv_of_run_uninhibited (trap_wf memory k ret) (trap_runState k ret s) (trap_irqInhibit k ret s)

/-- TAP that sets the inhibit has cleared I (10_state.md R40). -/
theorem tap_inhibit_clears_i {f : Ccr} {a : Byte} (h : (f.i && !a.getLsbD 4 || false) = true) :
    (f.load a).i = false := by
  simp only [Bool.or_false, Bool.and_eq_true, Bool.not_eq_true'] at h
  exact h.2

/-- An instruction enters with the inhibit cleared; CLI and TAP set it only as they clear I, WAI, STOP and TEST
leave RUN without it. -/
theorem exec_inv {i : Instr} {s t : State} (memory : s.mem.wf = true) (run : s.runState = .run)
    (uninhibited : s.irqInhibit = false) (h : exec i s = .next t) : Inv t := by
  cases exec_controlEffect h with
  | keeps k =>
    exact inv_of_run_uninhibited (k.accessed.wf memory) (k.runState.trans run) (k.irqInhibit.trans uninhibited)
  | cli => exact inv_of_run memory run fun _ => rfl
  | sei => exact inv_of_run_uninhibited memory run uninhibited
  | tap => exact inv_of_run memory run fun inhibit => tap_inhibit_clears_i (uninhibited ▸ inhibit)
  | rti =>
    exact inv_of_run_uninhibited ((returnFromTrap_readsUpTo s).accessed.wf memory)
      ((returnFromTrap_runState s).trans run) ((returnFromTrap_irqInhibit s).trans uninhibited)
  | trap _ _ => exact trap_inv memory _ _
  | wai =>
    exact inv_of_uninhibited (((pushFrame_accessed s.pc s).setRunState .wait).wf memory) (by simpa using uninhibited)
      nofun nofun
  | stop enabled => exact inv_of_uninhibited memory uninhibited (fun _ => enabled) nofun
  | test mode => exact inv_of_uninhibited memory uninhibited nofun fun _ => mode

/-- A look at XIRQ in STOP is outside the invariant. -/
theorem watchXirq_inv {s : State} (inv : Inv s) : Inv (watchXirq s) := by
  rw [watchXirq_eq]
  exact ⟨inv.memory, inv.inhibit, inv.stopped, inv.hang⟩

/-- Settles O54: resets, traps and wake-ups enter RUN with no inhibit, an instruction is executed from RUN with the
inhibit cleared, and the two events left change the run state to RUN or nothing of the invariant. -/
theorem stepKeepsInv : Obligations.StepKeepsInv := by
  intro s t inv h
  have fetchedMemory : (fetched s).mem.wf = true := (fetched_keeps s).accessed.wf inv.memory
  have effect := step_stepEffect h
  generalize event : nextEvent s = e at effect
  cases effect with
  | reset k =>
    have ⟨_, _, _, memory, _⟩ := takeReset_keeps k s
    exact inv_of_run_uninhibited (memory inv.memory) (takeReset_runState k s) (takeReset_irqInhibit k s)
  | trap k => exact trap_inv inv.memory k _
  | wake k =>
    exact inv_of_run_uninhibited ((enterHandler_readsUpTo k s).accessed.wf inv.memory) (enterHandler_runState k s)
      (enterHandler_irqInhibit k s)
  | resume => exact inv_of_run inv.memory rfl fun inhibit => (inv.inhibit inhibit).2
  | instruction executed =>
    have run : s.runState = .run := runState_of_nextEvent_execute event
    exact exec_inv fetchedMemory ((fetched_keeps s).runState.trans run) (fetched_keeps s).irqInhibit executed
  | illegal ret => exact trap_inv fetchedMemory _ _
  | idle => exact watchXirq_inv inv

/-! ### The reset state -/

theorem wordAt_toNat (m : Memory) (a : Word) :
    (m.wordAt a).toNat = 256 * (m.byteAt a).toNat + (m.byteAt (a + 1#16)).toNat :=
  join_toNat _ _

/-- Settles O52: the fields are those that `State.reset` writes, PC is the word of its memory at the pin's
vector. -/
theorem resetState : Obligations.ResetState :=
  ⟨rfl, rfl, rfl, rfl, rfl, wordAt_toNat _ (resetVector .pin)⟩

/-- Settles O55: the reset state runs with no inhibit, its memory is in canonical form. -/
theorem resetInv : Obligations.ResetInv := inv_of_run_uninhibited State.reset_mem_wf rfl rfl

end Sys2Proof.Proofs
end

section
/-! Proofs. The four kinds of memory, the order of a word's bytes, that a step always goes on, and what no step
changes (20_memory.md R62, R67, R69; 60_exceptions.md R420, R422, R433). -/

namespace Sys2Proof.Proofs

open Sys2Proof.Machine

/-! ### The kinds of memory -/

/-- A read of RAM gives back what was last written there. -/
theorem readByte_writeByte_ram {s : State} {a : Word} (memory : s.mem.wf = true) (ram : s.kind a = .ram) (v : Byte) :
    readByte a (writeByte a v s) = (v, writeByte a v s) := by
  have storage : Storage (writeByte a v s) a := .inl (((writeByte_onlyAccess a v s).kind a).trans ram)
  have written : (writeByte a v s).mem.byteAt a = v := by
    rw [writeByte_byteAt memory (by simp [ram]), if_pos ⟨rfl, ram⟩]
  rw [readByte_storage storage, written]

/-- Writes to ROM are ignored. -/
theorem writeByte_rom {s : State} {a : Word} (rom : s.kind a = .rom) (v : Byte) : writeByte a v s = s := by
  simp only [writeByte, rom]

/-- Writes where nothing stands are ignored. -/
theorem writeByte_unmapped {s : State} {a : Word} (unmapped : s.kind a = .unmapped) (v : Byte) :
    writeByte a v s = s := by
  simp only [writeByte, unmapped]

/-- A read where nothing stands answers a free value and counts it (log entries 5, 13). -/
theorem readByte_unmapped {s : State} {a : Word} (unmapped : s.kind a = .unmapped) :
    readByte a s = (Config.freeByte s.draws, { s with draws := s.draws + 1 }) := by
  simp only [readByte, unmapped, State.setDraws]

/-- Settles O7, kind by kind: RAM stores, ROM and Unmapped ignore, and a device stays within what accesses may
change. -/
theorem memoryKinds : Obligations.MemoryKinds := by
  intro s a v
  refine ⟨fun ram memory => ?ram, fun rom => ?rom, fun unmapped => ?unmapped, fun _ => ?io⟩
  case ram =>
    have noDevice : s.kind a ≠ .io := by simp [ram]
    exact ⟨readByte_writeByte_ram memory ram v, writeByte_plain noDevice v, writeByte_stored memory noDevice v⟩
  case rom => exact ⟨readByte_storage (.inr rom), writeByte_rom rom v⟩
  case unmapped => exact ⟨⟨_, readByte_unmapped unmapped⟩, writeByte_unmapped unmapped v⟩
  case io => exact ⟨readByte_onlyAccess a s, writeByte_onlyAccess a v s⟩

/-! ### Words -/

/-- What stands at a RAM address after stores. -/
theorem byteAt_of_stored_ram {l : List (Word × Byte)} {s t : State} (stored : Stored l s t) {x : Word}
    (ram : s.kind x = .ram) : t.mem.byteAt x = storedAt l x (s.mem.byteAt x) := by
  rw [stored x, if_pos ram]

theorem noIO_word_of_ram {s : State} {a : Word} (ram : s.kind a = .ram) (nextRam : s.kind (a + 1#16) = .ram) :
    NoIO s [a, a + 1#16] :=
  .cons (by simp [ram]) (.cons (by simp [nextRam]) (.nil s))

/-- A word written to RAM stands there, high byte first. -/
theorem writeWord_stored_ram {s : State} {a : Word} (memory : s.mem.wf = true) (ram : s.kind a = .ram)
    (nextRam : s.kind (a + 1#16) = .ram) (v : Word) :
    Stored [(a, hi v), (a + 1#16, lo v)] s (writeWord a v s) :=
  (writeWord_storesOnly memory a v (noIO_word_of_ram ram nextRam)).1

/-- The two addresses are different, at the top of the address space too, so neither byte overwrites the other. -/
theorem wordAt_writeWord_ram {s : State} {a : Word} (memory : s.mem.wf = true) (ram : s.kind a = .ram)
    (nextRam : s.kind (a + 1#16) = .ram) (v : Word) : (writeWord a v s).mem.wordAt a = v := by
  have stored := writeWord_stored_ram memory ram nextRam v
  have high : (writeWord a v s).mem.byteAt a = hi v := by
    rw [byteAt_of_stored_ram stored ram, storedAt, if_pos rfl]
  have low : (writeWord a v s).mem.byteAt (a + 1#16) = lo v := by
    rw [byteAt_of_stored_ram stored nextRam, storedAt, if_neg (Word.ne_succ a), storedAt, if_pos rfl]
  rw [Memory.wordAt, high, low, join_hi_lo]

/-- Settles O8: both halves are stored and stay, and a read of storage joins the bytes standing there. -/
theorem wordByteOrder : Obligations.WordByteOrder := by
  intro s a v memory ram nextRam
  have storage : ∀ {x : Word}, s.kind x = .ram → Storage (writeWord a v s) x :=
    fun isRam => .inl (((writeWord_onlyAccess a v s).kind _).trans isRam)
  refine ⟨writeWord_stored_ram memory ram nextRam v, ?readBack⟩
  case readBack =>
    rw [readWord_storage (storage ram) (storage nextRam), wordAt_writeWord_ram memory ram nextRam]

/-! ### A step always goes on -/

/-- Whatever bytes are fetched, they are an instruction, and every instruction answers a next state, or they raise
IllegalOpcode. -/
theorem executeOne_next (s : State) : ∃ t, executeOne s = .next t := by
  unfold executeOne
  split
  case h_1 i _ u _ =>
    obtain ⟨t, executed, -⟩ := exec_next_controlEffect i u
    exact ⟨t, executed⟩
  case h_2 => exact ⟨_, rfl⟩
  case h_3 => exact ⟨_, rfl⟩

/-- Settles O56, event by event: only an execution could refuse, and none does. -/
theorem stepNeverStops : Obligations.StepNeverStops := by
  intro s
  unfold step
  cases nextEvent s with
  | execute => exact executeOne_next _
  | reset _ | trap _ | wake _ | resume | idle => exact ⟨_, rfl⟩

/-! ### What no step changes -/

/-- An instruction writes registers and accesses memory and devices, and nothing else. -/
theorem exec_accessed {i : Instr} {s t : State} (h : exec i s = .next t) : Accessed s t := by
  cases exec_controlEffect h with
  | keeps k => exact k.accessed
  | cli => exact ((Accessed.refl s).setIrqInhibit _).setCcr _
  | sei => exact (Accessed.refl s).setCcr _
  | tap => exact ((Accessed.refl s).setIrqInhibit _).setCcr _
  | rti => exact (returnFromTrap_readsUpTo s).accessed
  | trap _ _ => exact trap_accessed _ _ s
  | wai => exact (pushFrame_accessed s.pc s).setRunState .wait
  | stop _ => exact ((Accessed.refl s).setRunState .stop).setXirqHeld _
  | test _ => exact (Accessed.refl s).setRunState .testHang

theorem fetched_accessed (s : State) : Accessed s (fetched s) :=
  ((Accessed.refl s).setIrqInhibit false).trans (fetched_keeps s).accessed

/-- Every step but a reset, which also withdraws its own request, writes registers and accesses memory and devices,
and nothing else. -/
theorem step_accessed_or_reset {s t : State} (h : step s = .next t) : Accessed s t ∨ ∃ k, t = takeReset k s := by
  have effect := step_stepEffect h
  generalize nextEvent s = event at effect
  cases effect with
  | reset k => exact .inr ⟨k, rfl⟩
  | trap k => exact .inl (trap_accessed k s.pc s)
  | wake k => exact .inl (enterHandler_readsUpTo k s).accessed
  | resume => exact .inl ((Accessed.refl s).setRunState .run)
  | instruction executed => exact .inl ((fetched_accessed s).trans (exec_accessed executed))
  | illegal ret => exact .inl ((fetched_accessed s).trans (trap_accessed _ ret _))
  | idle => exact .inl (watchXirq_accessed s)

/-- Settles O59: no access changes a parameter or a byte that is not RAM, and a reset does not either. -/
theorem stepKeepsRomAndMap : Obligations.StepKeepsRomAndMap := by
  intro s t _ h
  rcases step_accessed_or_reset h with accessed | ⟨k, rfl⟩
  · obtain ⟨memMap, irqLines, testMode⟩ := accessed.parameters
    exact ⟨memMap, irqLines, testMode, fun _ notRam => accessed.fixed notRam⟩
  · obtain ⟨memMap, irqLines, testMode, -, fixed, -⟩ := takeReset_keeps k s
    exact ⟨memMap, irqLines, testMode, fixed⟩

end Sys2Proof.Proofs
end

section
/-! Proofs. The decoder, the encoder and the opcode maps (30_encoding.md R101, R102, R111 to R117, R120). The two
directions of the decoder's agreement with the encoder meet at the cell that an instruction's opcode bytes select:
each Encodings line names the cells that make its instruction, and each cell of the maps makes instructions whose
Encodings line names it. -/

namespace Sys2Proof.Proofs

open Sys2Proof.Machine

/-! ### The cell that a prebyte and an opcode select -/

/-- The cell of the opcode maps at the opcode bytes `head`, a prebyte included (30_encoding.md R101, R102). -/
def cellAt : List Byte → Option Row
  | [op] => lookup .page0 op
  | [b0, op] => (prebyte b0).bind fun p => lookup p op
  | _ => none

/-- R101: the prebyte of a page. -/
theorem eq_of_prebyte_eq_some {b0 : Byte} {p : Page} (selects : prebyte b0 = some p) :
    p = .page1 ∧ b0 = 0x18#8 ∨ p = .page2 ∧ b0 = 0x1A#8 ∨ p = .page3 ∧ b0 = 0xCD#8 := by
  unfold prebyte at selects
  split at selects
  case isTrue is18 => exact .inl ⟨(Option.some.inj selects).symm, is18⟩
  case isFalse =>
    split at selects
    case isTrue is1A => exact .inr (.inl ⟨(Option.some.inj selects).symm, is1A⟩)
    case isFalse =>
      split at selects
      case isTrue isCD => exact .inr (.inr ⟨(Option.some.inj selects).symm, isCD⟩)
      case isFalse => cases selects

/-- R117: a prebyte value is an opcode on no page. -/
theorem lookup_eq_none_of_prebyte {b : Byte} {q : Page} (selects : prebyte b = some q) (p : Page) :
    lookup p b = none := by
  rcases eq_of_prebyte_eq_some selects with ⟨-, rfl⟩ | ⟨-, rfl⟩ | ⟨-, rfl⟩ <;> cases p <;> rfl

theorem prebyte_eq_none_of_lookup {p : Page} {op : Byte} {r : Row} (defined : lookup p op = some r) :
    prebyte op = none := by
  cases selects : prebyte op with
  | none => rfl
  | some q => simp [lookup_eq_none_of_prebyte selects] at defined

theorem decode_page0 {b0 : Byte} (noPrebyte : prebyte b0 = none) (rest : List Byte) :
    decode (b0 :: rest) = decodeOn .page0 b0 rest := by
  simp only [decode, noPrebyte]

theorem decode_of_prebyte {b0 : Byte} {p : Page} (selects : prebyte b0 = some p) (op : Byte) (ops : List Byte) :
    decode (b0 :: op :: ops) = decodeOn p op ops := by
  simp only [decode, selects]

theorem decodeOn_of_lookup {p : Page} {op : Byte} {r : Row} (defined : lookup p op = some r) (ops : List Byte) :
    decodeOn p op ops = r.read ops := by
  simp only [decodeOn, defined]

/-- Decoding reads the operands as the cell at the opcode bytes says. -/
theorem decode_of_cellAt {head : List Byte} {r : Row} (cell : cellAt head = some r) (ops : List Byte) :
    decode (head ++ ops) = r.read ops := by
  match head, cell with
  | [op], cell =>
    have defined : lookup .page0 op = some r := cell
    have noPrebyte := prebyte_eq_none_of_lookup defined
    exact (decode_page0 noPrebyte ops).trans (decodeOn_of_lookup defined ops)
  | [b0, op], cell =>
    obtain ⟨p, selects, defined⟩ := Option.bind_eq_some_iff.mp cell
    exact (decode_of_prebyte selects op ops).trans (decodeOn_of_lookup defined ops)

theorem lookup_of_decodeOn_ok {p : Page} {op : Byte} {ops rest : List Byte} {i : Instr}
    (decoded : decodeOn p op ops = .ok i rest) : ∃ r, lookup p op = some r ∧ r.read ops = .ok i rest := by
  cases defined : lookup p op with
  | none => simp [decodeOn, defined] at decoded
  | some r => exact ⟨r, rfl, decodeOn_of_lookup defined ops ▸ decoded⟩

/-- Whatever decodes begins with the opcode bytes of a cell, which makes the instruction of the bytes after them. -/
theorem cellAt_of_decode_ok {bs rest : List Byte} {i : Instr} (decoded : decode bs = .ok i rest) :
    ∃ head ops r, bs = head ++ ops ∧ cellAt head = some r ∧ r.read ops = .ok i rest := by
  match bs with
  | [] => simp [decode] at decoded
  | b0 :: ops =>
    cases selects : prebyte b0 with
    | none =>
      rw [decode_page0 selects] at decoded
      obtain ⟨r, defined, made⟩ := lookup_of_decodeOn_ok decoded
      exact ⟨[b0], ops, r, rfl, defined, made⟩
    | some p =>
      match ops with
      | [] => simp [decode, selects] at decoded
      | op :: ops =>
        rw [decode_of_prebyte selects] at decoded
        obtain ⟨r, defined, made⟩ := lookup_of_decodeOn_ok decoded
        exact ⟨[b0, op], ops, r, rfl, by simp [cellAt, selects, defined], made⟩

/-! ### From the Encodings lines to the cells -/

section Encoded
variable {head : List Byte} (rest : List Byte)

theorem decode_inherent {i : Instr} (cell : cellAt head = Map.inh i) : decode (head ++ rest) = .ok i rest :=
  decode_of_cellAt cell rest

theorem decode_byte {k : Byte → Instr} (cell : cellAt head = some (.op1 k)) (b : Byte) :
    decode (head ++ [b] ++ rest) = .ok (k b) rest := by
  rw [List.append_assoc]
  exact decode_of_cellAt cell ([b] ++ rest)

theorem decode_two_bytes {k : Byte → Byte → Instr} (cell : cellAt head = some (.op2 k)) (b c : Byte) :
    decode (head ++ [b] ++ [c] ++ rest) = .ok (k b c) rest := by
  simp only [List.append_assoc]
  exact decode_of_cellAt cell ([b] ++ ([c] ++ rest))

theorem decode_three_bytes {k : Byte → Byte → Byte → Instr} (cell : cellAt head = some (.op3 k)) (b c d : Byte) :
    decode (head ++ [b] ++ [c, d] ++ rest) = .ok (k b c d) rest := by
  simp only [List.append_assoc]
  exact decode_of_cellAt cell ([b] ++ ([c, d] ++ rest))

/-- R104, R106: a word field is its high byte and then its low byte. -/
theorem decode_word {f : Word → Instr} (cell : cellAt head = some (.op2 fun h l => f (join h l))) (w : Word) :
    decode (head ++ encWord w ++ rest) = .ok (f w) rest := by
  rw [List.append_assoc, decode_of_cellAt cell]
  simp only [encWord, List.cons_append, List.nil_append, Row.read, join_hi_lo]

end Encoded

/-- The cells of an instruction with the four address forms stand at these opcode bytes. -/
structure AddrCells (k : Addr → Instr) (dir ext indX indY : List Byte) : Prop where
  dir : cellAt dir = Map.dirAddr k
  ext : cellAt ext = Map.extAddr k
  indX : cellAt indX = Map.indXAddr k
  indY : cellAt indY = Map.indYAddr k

/-- The cells of an instruction of the read-modify-write group stand at these opcode bytes. -/
structure RmwCells (k : RmwAddr → Instr) (ext indX indY : List Byte) : Prop where
  ext : cellAt ext = Map.extRmw k
  indX : cellAt indX = Map.indXRmw k
  indY : cellAt indY = Map.indYRmw k

/-- The cells of BSET or BCLR stand at these opcode bytes. -/
structure BitCells (k : BitAddr → Byte → Instr) (dir indX indY : List Byte) : Prop where
  dir : cellAt dir = Map.dirBit k
  indX : cellAt indX = Map.indXBit k
  indY : cellAt indY = Map.indYBit k

/-- The cells of BRSET or BRCLR stand at these opcode bytes. -/
structure BitBranchCells (k : BitAddr → Byte → Byte → Instr) (dir indX indY : List Byte) : Prop where
  dir : cellAt dir = Map.dirBranch k
  indX : cellAt indX = Map.indXBranch k
  indY : cellAt indY = Map.indYBranch k

section Forms
variable {imm dir ext indX indY : List Byte} (rest : List Byte)

theorem decode_encAddr {k : Addr → Instr} (cells : AddrCells k dir ext indX indY) (o : Addr) :
    decode (encAddr o dir ext indX indY ++ rest) = .ok (k o) rest := by
  cases o with
  | dir dd => exact decode_byte rest cells.dir dd
  | ext hhll => exact decode_word (f := fun w => k (.ext w)) rest cells.ext hhll
  | indX ff => exact decode_byte rest cells.indX ff
  | indY ff => exact decode_byte rest cells.indY ff

theorem decode_encSrc8 {k : Src8 → Instr} (immCell : cellAt imm = Map.imm8 k)
    (cells : AddrCells (fun a => k (.mem a)) dir ext indX indY) (o : Src8) :
    decode (encSrc8 o imm dir ext indX indY ++ rest) = .ok (k o) rest := by
  cases o with
  | imm ii => exact decode_byte rest immCell ii
  | mem a => exact decode_encAddr rest cells a

theorem decode_encSrc16 {k : Src16 → Instr} (immCell : cellAt imm = Map.imm16 k)
    (cells : AddrCells (fun a => k (.mem a)) dir ext indX indY) (o : Src16) :
    decode (encSrc16 o imm dir ext indX indY ++ rest) = .ok (k o) rest := by
  cases o with
  | imm jjkk => exact decode_word (f := fun w => k (.imm w)) rest immCell jjkk
  | mem a => exact decode_encAddr rest cells a

theorem decode_encRmw {k : RmwAddr → Instr} (cells : RmwCells k ext indX indY) (o : RmwAddr) :
    decode (encRmw o ext indX indY ++ rest) = .ok (k o) rest := by
  cases o with
  | ext hhll => exact decode_word (f := fun w => k (.ext w)) rest cells.ext hhll
  | indX ff => exact decode_byte rest cells.indX ff
  | indY ff => exact decode_byte rest cells.indY ff

theorem decode_encBit {k : BitAddr → Byte → Instr} (cells : BitCells k dir indX indY) (o : BitAddr) (mm : Byte) :
    decode (encBit o dir indX indY ++ [mm] ++ rest) = .ok (k o mm) rest := by
  cases o with
  | dir dd => exact decode_two_bytes rest cells.dir dd mm
  | indX ff => exact decode_two_bytes rest cells.indX ff mm
  | indY ff => exact decode_two_bytes rest cells.indY ff mm

theorem decode_encBit_branch {k : BitAddr → Byte → Byte → Instr} (cells : BitBranchCells k dir indX indY)
    (o : BitAddr) (mm rr : Byte) : decode (encBit o dir indX indY ++ [mm, rr] ++ rest) = .ok (k o mm rr) rest := by
  cases o with
  | dir dd => exact decode_three_bytes rest cells.dir dd mm rr
  | indX ff => exact decode_three_bytes rest cells.indX ff mm rr
  | indY ff => exact decode_three_bytes rest cells.indY ff mm rr

end Forms

/-- Settles O1, instruction by instruction: every opcode its Encodings line prints is the cell of that operand form
in the maps, and the six second names of R120 are not well-formed. -/
theorem decodeOfEncode : Obligations.DecodeOfEncode := by
  intro i rest wellFormed
  cases i with
  | aba | abx | aby | daa | sba | mul | fdiv | idiv
  | asla | aslb | asld | asra | asrb | lsra | lsrb | lsrd | rola | rolb | rora | rorb
  | coma | comb | nega | negb | deca | decb | des | dex | dey | inca | incb | ins | inx | iny
  | nop | clra | clrb | clc | cli | clv | sec | sei | sev
  | psha | pshb | pshx | pshy | pula | pulb | pulx | puly
  | tab | tba | tap | tpa | tsx | tsy | txs | tys | xgdx | xgdy | cba | tsta | tstb
  | rts | rti | swi | wai | stop | test => exact decode_inherent rest rfl
  | adca o | adcb o | adda o | addb o | sbca o | sbcb o | suba o | subb o
  | anda o | andb o | eora o | eorb o | oraa o | orab o | ldaa o | ldab o
  | bita o | bitb o | cmpa o | cmpb o => exact decode_encSrc8 rest rfl ⟨rfl, rfl, rfl, rfl⟩ o
  | addd o | subd o | ldd o | lds o | ldx o | ldy o | cpd o | cpx o | cpy o =>
    exact decode_encSrc16 rest rfl ⟨rfl, rfl, rfl, rfl⟩ o
  | staa o | stab o | std o | sts o | stx o | sty o | jsr o => exact decode_encAddr rest ⟨rfl, rfl, rfl, rfl⟩ o
  | asl o | asr o | lsr o | rol o | ror o | com o | neg o | dec o | inc o | clr o | tst o | jmp o =>
    exact decode_encRmw rest ⟨rfl, rfl, rfl⟩ o
  | bclr o mm | bset o mm => exact decode_encBit rest ⟨rfl, rfl, rfl⟩ o mm
  | brclr o mm rr | brset o mm rr => exact decode_encBit_branch rest ⟨rfl, rfl, rfl⟩ o mm rr
  | bcc rr | bcs rr | beq rr | bne rr | bmi rr | bpl rr | bvc rr | bvs rr | bhi rr | bls rr
  | bge rr | bgt rr | ble rr | blt rr | bra rr | brn rr | bsr rr => exact decode_byte rest rfl rr
  | lsl _ | lsla | lslb | lsld | bhs _ | blo _ => cases wellFormed

/-! ### From the cells to the Encodings lines -/

/-- `bs` is the encoding of `i`, and `i` is no second name of another (30_encoding.md R120). -/
structure Spells (bs : List Byte) (i : Instr) : Prop where
  bytes : encode i = bs
  wellFormed : i.WellFormed

/-- Whatever instruction the cell makes of operand bytes is spelled by the opcode bytes `head` and those. -/
def CellSpelled (head : List Byte) : Option Row → Prop
  | none => True
  | some (.op0 i) => Spells head i
  | some (.op1 k) => ∀ b, Spells (head ++ [b]) (k b)
  | some (.op2 k) => ∀ b c, Spells (head ++ [b, c]) (k b c)
  | some (.op3 k) => ∀ b c d, Spells (head ++ [b, c, d]) (k b c d)

section CellShapes
variable {head : List Byte}

theorem cellSpelled_none : CellSpelled head none := trivial

theorem cellSpelled_op0 {i : Instr} : CellSpelled head (some (.op0 i)) ↔ Spells head i := .rfl

theorem cellSpelled_op1 {k : Byte → Instr} :
    CellSpelled head (some (.op1 k)) ↔ ∀ b, Spells (head ++ [b]) (k b) := .rfl

theorem cellSpelled_op2 {k : Byte → Byte → Instr} :
    CellSpelled head (some (.op2 k)) ↔ ∀ b c, Spells (head ++ [b, c]) (k b c) := .rfl

theorem cellSpelled_op3 {k : Byte → Byte → Byte → Instr} :
    CellSpelled head (some (.op3 k)) ↔ ∀ b c d, Spells (head ++ [b, c, d]) (k b c d) := .rfl

/-- Every pair of bytes is a word field, so a cell with a word operand may be judged by its words. -/
theorem cellSpelled_word {f : Word → Instr} :
    CellSpelled head (some (.op2 fun h l => f (join h l))) ↔ ∀ w, Spells (head ++ encWord w) (f w) := by
  constructor
  · intro spelled w
    simpa only [encWord, join_hi_lo] using spelled (hi w) (lo w)
  · intro spelled h l
    simpa only [encWord, hi_join, lo_join] using spelled (join h l)

theorem cellSpelled_ext8 {k : Src8 → Instr} :
    CellSpelled head (Map.ext8 k) ↔ ∀ w, Spells (head ++ encWord w) (k (.mem (.ext w))) :=
  cellSpelled_word (f := fun w => k (.mem (.ext w)))

theorem cellSpelled_imm16 {k : Src16 → Instr} :
    CellSpelled head (Map.imm16 k) ↔ ∀ w, Spells (head ++ encWord w) (k (.imm w)) :=
  cellSpelled_word (f := fun w => k (.imm w))

theorem cellSpelled_ext16 {k : Src16 → Instr} :
    CellSpelled head (Map.ext16 k) ↔ ∀ w, Spells (head ++ encWord w) (k (.mem (.ext w))) :=
  cellSpelled_word (f := fun w => k (.mem (.ext w)))

theorem cellSpelled_extAddr {k : Addr → Instr} :
    CellSpelled head (Map.extAddr k) ↔ ∀ w, Spells (head ++ encWord w) (k (.ext w)) :=
  cellSpelled_word (f := fun w => k (.ext w))

theorem cellSpelled_extRmw {k : RmwAddr → Instr} :
    CellSpelled head (Map.extRmw k) ↔ ∀ w, Spells (head ++ encWord w) (k (.ext w)) :=
  cellSpelled_word (f := fun w => k (.ext w))

end CellShapes

/-- Cell by cell through the four maps as R111 to R114 print them, page 0 by low digit `row.2` and high digit
`cell.2`: the Encodings line of the instruction in the cell prints the cell's opcode bytes. -/
theorem maps_spelled :
    (∀ row ∈ Map.page0.zipIdx, ∀ cell ∈ row.1.zipIdx,
      CellSpelled [BitVec.ofNat 8 (cell.2 * 16 + row.2)] cell.1) ∧
    (∀ cell ∈ Map.page1, CellSpelled [0x18#8, BitVec.ofNat 8 cell.1] cell.2) ∧
    (∀ cell ∈ Map.page2, CellSpelled [0x1A#8, BitVec.ofNat 8 cell.1] cell.2) ∧
    (∀ cell ∈ Map.page3, CellSpelled [0xCD#8, BitVec.ofNat 8 cell.1] cell.2) := by
  simp only [Map.page0, Map.page0Row0, Map.page0Row1, Map.page0Row2, Map.page0Row3, Map.page0Row4, Map.page0Row5,
    Map.page0Row6, Map.page0Row7, Map.page0Row8, Map.page0Row9, Map.page0RowA, Map.page0RowB, Map.page0RowC,
    Map.page0RowD, Map.page0RowE, Map.page0RowF, Map.page1, Map.page1Low0to5, Map.page1Low6toA, Map.page1LowBtoF,
    Map.page2, Map.page3, List.cons_append, List.nil_append, List.zipIdx_cons, List.zipIdx_nil,
    List.forall_mem_cons, List.not_mem_nil, false_imp_iff, implies_true, and_true, true_and,
    cellSpelled_ext8, cellSpelled_imm16, cellSpelled_ext16, cellSpelled_extAddr, cellSpelled_extRmw,
    Map.inh, Map.rel, Map.imm8, Map.dir8, Map.indX8, Map.indY8, Map.dir16, Map.indX16, Map.indY16, Map.dirAddr,
    Map.indXAddr, Map.indYAddr, Map.indXRmw, Map.indYRmw, Map.dirBit, Map.indXBit, Map.indYBit, Map.dirBranch,
    Map.indXBranch, Map.indYBranch, cellSpelled_none, cellSpelled_op0, cellSpelled_op1, cellSpelled_op2,
    cellSpelled_op3]
  and_intros
  all_goals
    intros
    exact ⟨rfl, rfl⟩

/-- What a sparse map answers stands in its list. -/
theorem mem_of_sparse {cells : List (Nat × Option Row)} {op : Nat} {r : Row} (found : Map.sparse cells op = some r) :
    (op, some r) ∈ cells := by
  induction cells with
  | nil => simp [Map.sparse] at found
  | cons cell cells ih =>
    obtain ⟨op', c⟩ := cell
    rw [Map.sparse] at found
    split at found
    case isTrue same => simp [same, found]
    case isFalse => exact List.mem_cons_of_mem _ (ih found)

/-- An entry that is not the default stands in the list at its index. -/
theorem mem_zipIdx_of_getD {α : Type} {l : List α} {n : Nat} {d a : α} (found : l.getD n d = a) (other : a ≠ d) :
    (a, n) ∈ l.zipIdx := by
  rw [List.mk_mem_zipIdx_iff_getElem?]
  cases entry : l[n]? with
  | none => simp [List.getD, entry, other.symm] at found
  | some b => simpa [List.getD, entry] using found

/-- Whatever cell the maps hold at the opcode bytes `head`, its instructions are spelled with them. -/
theorem cellSpelled_of_cellAt {head : List Byte} {r : Row} (cell : cellAt head = some r) :
    CellSpelled head (some r) := by
  obtain ⟨page0, page1, page2, page3⟩ := maps_spelled
  match head, cell with
  | [op], cell =>
    have found : (Map.page0.getD (op.toNat % 16) []).getD (op.toNat / 16) none = some r := cell
    have row := mem_zipIdx_of_getD (l := Map.page0) (n := op.toNat % 16) (d := []) rfl fun empty => by
      rw [empty] at found
      cases found
    have spelled := page0 _ row _ (mem_zipIdx_of_getD found (by simp))
    rwa [Nat.div_add_mod', BitVec.ofNat_toNat, BitVec.setWidth_eq] at spelled
  | [b0, op], cell =>
    obtain ⟨p, selects, defined⟩ := Option.bind_eq_some_iff.mp cell
    obtain ⟨rfl, rfl⟩ | ⟨rfl, rfl⟩ | ⟨rfl, rfl⟩ := eq_of_prebyte_eq_some selects
    · simpa using page1 _ (mem_of_sparse defined)
    · simpa using page2 _ (mem_of_sparse defined)
    · simpa using page3 _ (mem_of_sparse defined)

/-- What a cell makes of operand bytes has the opcode bytes and those as its encoding. -/
theorem encode_of_read_ok {head ops rest : List Byte} {r : Row} {i : Instr} (spelled : CellSpelled head (some r))
    (made : r.read ops = .ok i rest) : head ++ ops = encode i ++ rest ∧ i.WellFormed := by
  match r, ops, made with
  | .op0 _, _, rfl => exact ⟨by rw [spelled.bytes], spelled.wellFormed⟩
  | .op1 _, b :: _, rfl => exact ⟨by simp [(spelled b).bytes], (spelled b).wellFormed⟩
  | .op2 _, b :: c :: _, rfl => exact ⟨by simp [(spelled b c).bytes], (spelled b c).wellFormed⟩
  | .op3 _, b :: c :: d :: _, rfl => exact ⟨by simp [(spelled b c d).bytes], (spelled b c d).wellFormed⟩

/-- Settles O2: whatever decodes was made by a cell of the maps, and each cell's instructions are spelled by the opcode
bytes at which it stands. -/
theorem encodeOfDecode : Obligations.EncodeOfDecode := by
  intro bs i rest decoded
  obtain ⟨head, ops, r, rfl, cell, made⟩ := cellAt_of_decode_ok decoded
  exact encode_of_read_ok (cellSpelled_of_cellAt cell) made

/-! ### Undefined opcodes -/

/-- A cell that lacks operand bytes answers that bytes are missing, never an undefined opcode. -/
theorem read_ne_undefinedOpcode (r : Row) (ops : List Byte) (p : Page) (op : Byte) :
    r.read ops ≠ .undefinedOpcode p op := by
  unfold Row.read
  split <;> exact Decoded.noConfusion

/-- R116: only an empty cell is answered as an undefined opcode. -/
theorem decodeOn_eq_undefinedOpcode_iff {p q : Page} {op b : Byte} {ops : List Byte} :
    decodeOn p op ops = .undefinedOpcode q b ↔ lookup p op = none ∧ p = q ∧ op = b := by
  cases defined : lookup p op with
  | none => simp [decodeOn, defined]
  | some r => simp [decodeOn_of_lookup defined, read_ne_undefinedOpcode]

theorem decode_eq_undefinedOpcode_page0_iff {b : Byte} {rest : List Byte} :
    decode (b :: rest) = .undefinedOpcode .page0 b ↔ prebyte b = none ∧ lookup .page0 b = none := by
  cases selects : prebyte b with
  | none => simp [decode_page0 selects, decodeOn_eq_undefinedOpcode_iff]
  | some p =>
    have otherPage : p ≠ .page0 := by
      rcases eq_of_prebyte_eq_some selects with ⟨rfl, -⟩ | ⟨rfl, -⟩ | ⟨rfl, -⟩ <;> decide
    cases rest with
    | nil => simp [decode, selects]
    | cons op ops => simp [decode_of_prebyte selects, decodeOn_eq_undefinedOpcode_iff, otherPage]

/-- R111: of the 256 cells of page 0 the twenty undefined opcodes and the three prebytes are empty. -/
theorem page0_empty_count :
    ((List.range 256).filter fun n => ¬(lookup .page0 (BitVec.ofNat 8 n)).isSome).length = 23 := by decide

theorem page0_defined_count :
    ((List.range 256).filter fun n => (lookup .page0 (BitVec.ofNat 8 n)).isSome).length = 233 := by
  have cells := List.length_eq_countP_add_countP (l := List.range 256) fun n =>
    (lookup .page0 (BitVec.ofNat 8 n)).isSome
  rw [List.countP_eq_length_filter, List.countP_eq_length_filter, page0_empty_count, List.length_range] at cells
  omega

/-- Settles O3: the empty cells of page 0 that are no prebyte are the twenty of R116, and the cells are counted page by
page. -/
theorem opcodeMaps : Obligations.OpcodeMaps := by
  refine ⟨fun b rest => decode_eq_undefinedOpcode_page0_iff.trans ?empty, ?page0, ?page1, ?page2, ?page3, ?prebytes⟩
  case empty =>
    clear rest
    revert b
    decide
  case page0 => exact page0_defined_count
  case page1 => decide
  case page2 => decide
  case page3 => decide
  case prebytes =>
    exact fun p => ⟨lookup_eq_none_of_prebyte (q := .page1) rfl p, lookup_eq_none_of_prebyte (q := .page2) rfl p,
      lookup_eq_none_of_prebyte (q := .page3) rfl p⟩

/-! ### The sample words -/

theorem decode_of_spells {bs : List Byte} {i : Instr} (spells : Spells bs i) : decode bs = .ok i [] := by
  simpa only [List.append_nil, spells.bytes] using decodeOfEncode i [] spells.wellFormed

/-- Settles O4: each of the eleven words is the encoding of the instruction of its row. -/
theorem decodeSampleWords : Obligations.DecodeSampleWords := by
  unfold Obligations.DecodeSampleWords
  and_intros <;> exact decode_of_spells ⟨rfl, rfl⟩

end Sys2Proof.Proofs
end

section
/-! Proofs. Effective addresses and operands (30_encoding.md R104 to R107, R110; 20_memory.md R61, R62, R69). -/

namespace Sys2Proof.Proofs

open Sys2Proof.Machine

/-- Settles O6: the reads that an operand makes are those of its effective address, and storage answers what stands
there. -/
theorem operandValues : Obligations.OperandValues := by
  intro s
  refine ⟨fun _ => rfl, fun _ => rfl, fun _ => rfl, fun _ => rfl, fun o => operand8_onlyReads o s,
    fun o => operand16_onlyReads o s, fun _ storage => readByte_storage storage, fun a high low => ?word⟩
  case word =>
    rw [readWord_storage high low]
    exact ⟨rfl, join_toNat _ _⟩

theorem toNat_add_zext16 (w : Word) (b : Byte) : (w + zext16 b).toNat = (w.toNat + b.toNat) % 65536 := by
  rw [BitVec.toNat_add, zext16_toNat]

/-- Settles O5, form by form. -/
theorem effectiveAddresses : Obligations.EffectiveAddresses :=
  fun s dd ff _ => ⟨zext16_toNat dd, rfl, toNat_add_zext16 s.ix ff, toNat_add_zext16 s.iy ff⟩

end Sys2Proof.Proofs
end

section
/-! Proofs. Additions, subtractions and compares (00_scope.md R7 to R11; 40_arithmetic.md R200, R203 to R207, R209 to
R214; 45_test_compare.md R352 to R357). V, which the model finds from three signs, is that the signed result does not
fit; a difference is the sum with the complement of the subtrahend, so both come from one argument. -/

namespace Sys2Proof.Proofs

open Sys2Proof.Machine

/-! ### Signed overflow from the signs -/

/-- One reduction to a balanced residue, of a number at most one modulus away. -/
theorem bmod_two_pow_succ_eq_ite {w : Nat} {t : Int} (low : -(2 * 2 ^ w) ≤ t) (high : t < 2 * 2 ^ w) :
    t.bmod (2 ^ (w + 1)) = if t < -2 ^ w then t + 2 * 2 ^ w else if 2 ^ w ≤ t then t - 2 * 2 ^ w else t := by
  have modulus : ((2 ^ (w + 1) : Nat) : Int) = 2 * 2 ^ w := by
    rw [Int.natCast_pow, Int.pow_succ]
    exact Int.mul_comm _ _
  by_cases below : t < -2 ^ w
  · rw [if_pos below, ← Int.add_bmod_right, modulus]
    apply Int.bmod_eq_of_le <;> omega
  by_cases above : 2 ^ w ≤ t
  · rw [if_neg below, if_pos above, ← Int.sub_bmod_right, modulus]
    apply Int.bmod_eq_of_le <;> omega
  · rw [if_neg below, if_neg above]
    apply Int.bmod_eq_of_le <;> omega

/-- Two operands of one sign whose sum has the other sign: exactly then the signed sum, with the carry-in, does not
fit. -/
theorem msb_overflow_eq_decide {w k : Nat} {a m r : BitVec (w + 1)} (carry : k ≤ 1)
    (sum : r.toInt = (a.toInt + m.toInt + k).bmod (2 ^ (w + 1))) :
    ((a.msb == m.msb) && (r.msb != a.msb)) =
      decide (a.toInt + m.toInt + k < -2 ^ w ∨ 2 ^ w - 1 < a.toInt + m.toInt + k) := by
  have lowA := a.le_toInt
  have highA := a.toInt_lt
  have lowM := m.le_toInt
  have highM := m.toInt_lt
  rw [Nat.add_sub_cancel] at lowA highA lowM highM
  rw [bmod_two_pow_succ_eq_ite (by omega) (by omega)] at sum
  rw [Bool.eq_iff_iff]
  simp only [BitVec.msb_eq_toInt, Bool.and_eq_true, beq_iff_eq, bne_iff_ne, ne_eq, decide_eq_decide, decide_eq_true_eq]
  omega

theorem toInt_complement {w : Nat} (m : BitVec (w + 1)) : (~~~m).toInt = -m.toInt - 1 := by
  have bound := m.isLt
  rw [BitVec.toInt_eq_toNat_cond, BitVec.toInt_eq_toNat_cond, BitVec.toNat_not]
  omega

/-- Two operands of different signs whose difference has not the minuend's sign: exactly then the signed difference,
with the borrow-in, does not fit. -/
theorem msb_overflow_sub_eq_decide {w k : Nat} {a m r : BitVec (w + 1)} (borrow : k ≤ 1)
    (difference : r.toInt = (a.toInt - m.toInt - k).bmod (2 ^ (w + 1))) :
    ((a.msb != m.msb) && (r.msb != a.msb)) =
      decide (a.toInt - m.toInt - k < -2 ^ w ∨ 2 ^ w - 1 < a.toInt - m.toInt - k) := by
  have asSum : a.toInt - m.toInt - k = a.toInt + (~~~m).toInt + (1 - k : Nat) := by
    rw [toInt_complement]
    omega
  have signs : (a.msb != m.msb) = (a.msb == (~~~m).msb) := by
    rw [BitVec.msb_not, decide_eq_true (Nat.zero_lt_succ w), Bool.true_and]
    cases a.msb <;> cases m.msb <;> rfl
  rw [signs, asSum]
  rw [asSum] at difference
  exact msb_overflow_eq_decide (Nat.sub_le 1 k) difference

/-! ### The flags of the additions -/

theorem bitNat_eq_toNat (c : Bool) : bitNat c = c.toNat := by
  cases c <;> rfl

theorem sum8_eq_add (a m : Byte) (c : Bool) : sum8 a m c = a + m + BitVec.ofNat 8 c.toNat := by
  simp only [sum8, bitNat_eq_toNat, BitVec.ofNat_add, BitVec.ofNat_toNat, BitVec.setWidth_eq]

theorem toInt_sum8 (a m : Byte) (c : Bool) : (sum8 a m c).toInt = (a.toInt + m.toInt + c.toNat).bmod (2 ^ 8) := by
  rw [sum8_eq_add, BitVec.toInt_add, BitVec.toInt_add, BitVec.toInt_ofNat', Int.bmod_add_bmod, Int.add_bmod_bmod]

/-- R8, with the sum and its signs as integers. -/
theorem addFlags8_eq (a m : Byte) (c : Bool) (f : Ccr) :
    addFlags8 a m c f =
      { f with
        h := decide (15 < a.toNat % 16 + m.toNat % 16 + c.toNat)
        n := decide ((a + m + BitVec.ofNat 8 c.toNat).toInt < 0)
        z := decide (a + m + BitVec.ofNat 8 c.toNat = 0#8)
        v := decide (a.toInt + m.toInt + c.toNat < -128 ∨ 127 < a.toInt + m.toInt + c.toNat)
        c := decide (255 < a.toNat + m.toNat + c.toNat) } := by
  rw [← sum8_eq_add, ← bitNat_eq_toNat]
  refine Ccr.ext rfl rfl rfl rfl ?n rfl ?v rfl
  case n => exact BitVec.msb_eq_toInt (x := sum8 a m c)
  case v =>
    rw [bitNat_eq_toNat]
    exact msb_overflow_eq_decide (Bool.toNat_le c) (toInt_sum8 a m c)

/-! ### The flags of the subtractions -/

theorem diff8_eq_sub (a m : Byte) (c : Bool) : diff8 a m c = a - m - BitVec.ofNat 8 c.toNat := by
  simp only [diff8, bitNat_eq_toNat, Int.sub_eq_add_neg, BitVec.sub_eq_add_neg, BitVec.ofInt_add, BitVec.ofInt_neg,
    BitVec.ofInt_natCast, BitVec.ofNat_toNat, BitVec.setWidth_eq]

theorem toInt_diff8 (a m : Byte) (c : Bool) : (diff8 a m c).toInt = (a.toInt - m.toInt - c.toNat).bmod (2 ^ 8) := by
  rw [diff8_eq_sub, BitVec.toInt_sub, BitVec.toInt_sub, BitVec.toInt_ofNat', Int.bmod_sub_bmod, Int.sub_bmod_bmod]

/-- R9, with the difference and its signs as integers. -/
theorem subFlags8_eq (a m : Byte) (c : Bool) (f : Ccr) :
    subFlags8 a m c f =
      { f with
        n := decide ((a - m - BitVec.ofNat 8 c.toNat).toInt < 0)
        z := decide (a - m - BitVec.ofNat 8 c.toNat = 0#8)
        v := decide (a.toInt - m.toInt - c.toNat < -128 ∨ 127 < a.toInt - m.toInt - c.toNat)
        c := decide (a.toNat < m.toNat + c.toNat) } := by
  rw [← diff8_eq_sub, ← bitNat_eq_toNat]
  refine Ccr.ext rfl rfl rfl rfl ?n rfl ?v rfl
  case n => exact BitVec.msb_eq_toInt (x := diff8 a m c)
  case v =>
    rw [bitNat_eq_toNat]
    exact msb_overflow_sub_eq_decide (Bool.toNat_le c) (toInt_diff8 a m c)

/-! ### The flags of the 16-bit operations -/

theorem sum16_eq_add (a m : Word) : sum16 a m = a + m := by
  simp only [sum16, BitVec.ofNat_add, BitVec.ofNat_toNat, BitVec.setWidth_eq]

theorem diff16_eq_sub (a m : Word) : diff16 a m = a - m := by
  simp only [diff16, Int.sub_eq_add_neg, BitVec.sub_eq_add_neg, BitVec.ofInt_add, BitVec.ofInt_neg,
    BitVec.ofInt_natCast, BitVec.ofNat_toNat, BitVec.setWidth_eq]

/-- R10, with the sum and its signs as integers. -/
theorem addFlags16_eq (a m : Word) (f : Ccr) :
    addFlags16 a m f =
      { f with
        n := decide ((a + m).toInt < 0)
        z := decide (a + m = 0#16)
        v := decide (a.toInt + m.toInt < -32768 ∨ 32767 < a.toInt + m.toInt)
        c := decide (65535 < a.toNat + m.toNat) } := by
  rw [← sum16_eq_add]
  refine Ccr.ext rfl rfl rfl rfl ?n rfl ?v rfl
  case n => exact BitVec.msb_eq_toInt (x := sum16 a m)
  case v =>
    rw [← Int.add_zero (a.toInt + m.toInt)]
    refine msb_overflow_eq_decide (k := 0) (Nat.zero_le 1) ?_
    rw [sum16_eq_add, BitVec.toInt_add, Int.natCast_zero, Int.add_zero]

theorem word_sub_eq_zero_iff (a m : Word) : a - m = 0#16 ↔ a = m := by
  bv_omega

/-- R11, with the difference and its signs as integers. -/
theorem subFlags16_eq (a m : Word) (f : Ccr) :
    subFlags16 a m f =
      { f with
        n := decide ((a - m).toInt < 0)
        z := decide (a = m)
        v := decide (a.toInt - m.toInt < -32768 ∨ 32767 < a.toInt - m.toInt)
        c := decide (a.toNat < m.toNat) } := by
  rw [← diff16_eq_sub]
  refine Ccr.ext rfl rfl rfl rfl ?n ?z ?v rfl
  case n => exact BitVec.msb_eq_toInt (x := diff16 a m)
  case z =>
    have zero : diff16 a m = 0#16 ↔ a = m := by rw [diff16_eq_sub, word_sub_eq_zero_iff]
    exact decide_eq_decide.2 zero
  case v =>
    rw [← Int.sub_zero (a.toInt - m.toInt)]
    refine msb_overflow_sub_eq_decide (k := 0) (Nat.zero_le 1) ?_
    rw [diff16_eq_sub, BitVec.toInt_sub, Int.natCast_zero, Int.sub_zero]

/-! ### The shared shapes, from a result and flags -/

section Shapes

variable {op : AluOp8} {op16 : AluOp16} {o : Src8} {o16 : Src16} {s : State} {r : Byte} {d : Word} {f : Ccr}

theorem aluA_eq_of (result : op.result s.a (operand8 o s).1 s.ccr = r)
    (flags : op.flags s.a (operand8 o s).1 s.ccr = f) : aluA op o s = ((operand8 o s).2.setA r).setCcr f := by
  simp only [aluA, operand8_a, operand8_ccr, result, flags]

theorem aluB_eq_of (result : op.result s.b (operand8 o s).1 s.ccr = r)
    (flags : op.flags s.b (operand8 o s).1 s.ccr = f) : aluB op o s = ((operand8 o s).2.setB r).setCcr f := by
  simp only [aluB, operand8_b, operand8_ccr, result, flags]

theorem aluAB_eq_of (result : op.result s.a s.b s.ccr = r) (flags : op.flags s.a s.b s.ccr = f) :
    aluAB op s = (s.setA r).setCcr f := by
  simp only [aluAB, result, flags]

theorem aluD_eq_of (result : op16.result s.d (operand16 o16 s).1 = d)
    (flags : op16.flags s.d (operand16 o16 s).1 s.ccr = f) :
    aluD op16 o16 s = ((operand16 o16 s).2.setD d).setCcr f := by
  simp only [State.d] at result flags
  simp only [aluD, State.d, operand16_a, operand16_b, operand16_ccr, result, flags]

theorem testA_eq_of (flags : op.flags s.a (operand8 o s).1 s.ccr = f) :
    testA op o s = (operand8 o s).2.setCcr f := by
  simp only [testA, operand8_a, operand8_ccr, flags]

theorem testB_eq_of (flags : op.flags s.b (operand8 o s).1 s.ccr = f) :
    testB op o s = (operand8 o s).2.setCcr f := by
  simp only [testB, operand8_b, operand8_ccr, flags]

theorem compare16_eq_of (flags : subFlags16 d (operand16 o16 s).1 s.ccr = f) :
    compare16 d o16 s = (operand16 o16 s).2.setCcr f := by
  simp only [compare16, operand16_ccr, flags]

end Shapes

/-! ### The instructions -/

/-- Settles O10: the one flag computation of R8, with no carry-in or the old C, over the operand's shape. -/
theorem additionResult : Obligations.AdditionResult := by
  refine ⟨fun s o => ⟨operand8_onlyReads o s, ?adda, ?addb, ?adca, ?adcb, ?aba⟩, fun _ => rfl, fun _ => rfl,
    fun _ => rfl, fun _ => rfl, rfl⟩
  case adda => exact congrArg Host.Outcome.next (aluA_eq_of (op := addOp) (sum8_eq_add _ _ _) (addFlags8_eq _ _ _ _))
  case addb => exact congrArg Host.Outcome.next (aluB_eq_of (op := addOp) (sum8_eq_add _ _ _) (addFlags8_eq _ _ _ _))
  case adca => exact congrArg Host.Outcome.next (aluA_eq_of (op := adcOp) (sum8_eq_add _ _ _) (addFlags8_eq _ _ _ _))
  case adcb => exact congrArg Host.Outcome.next (aluB_eq_of (op := adcOp) (sum8_eq_add _ _ _) (addFlags8_eq _ _ _ _))
  case aba => exact congrArg Host.Outcome.next (aluAB_eq_of (op := addOp) (sum8_eq_add _ _ _) (addFlags8_eq _ _ _ _))

/-- Settles O11: the one flag computation of R9, with no borrow-in or the old C; a compare is the subtraction without
its write-back. -/
theorem subtractionResult : Obligations.SubtractionResult := by
  refine ⟨fun s o => ⟨operand8_onlyReads o s, ?suba, ?subb, ?sbca, ?sbcb, ?sba, ?cmpa, ?cmpb, ?cba⟩,
    fun _ => rfl, fun _ => rfl, fun _ => rfl, fun _ => rfl, fun _ => rfl, fun _ => rfl, rfl, rfl⟩
  case suba => exact congrArg Host.Outcome.next (aluA_eq_of (op := subOp) (diff8_eq_sub _ _ _) (subFlags8_eq _ _ _ _))
  case subb => exact congrArg Host.Outcome.next (aluB_eq_of (op := subOp) (diff8_eq_sub _ _ _) (subFlags8_eq _ _ _ _))
  case sbca => exact congrArg Host.Outcome.next (aluA_eq_of (op := sbcOp) (diff8_eq_sub _ _ _) (subFlags8_eq _ _ _ _))
  case sbcb => exact congrArg Host.Outcome.next (aluB_eq_of (op := sbcOp) (diff8_eq_sub _ _ _) (subFlags8_eq _ _ _ _))
  case sba => exact congrArg Host.Outcome.next (aluAB_eq_of (op := subOp) (diff8_eq_sub _ _ _) (subFlags8_eq _ _ _ _))
  case cmpa => exact congrArg Host.Outcome.next (testA_eq_of (op := subOp) (subFlags8_eq _ _ _ _))
  case cmpb => exact congrArg Host.Outcome.next (testB_eq_of (op := subOp) (subFlags8_eq _ _ _ _))
  case cba => exact congrArg (fun f => Host.Outcome.next (s.setCcr f)) (subFlags8_eq s.a s.b false s.ccr)

/-- Settles O12: the flag computations of R10 and R11 over the 16-bit operand's shape. -/
theorem wordArithmeticResult : Obligations.WordArithmeticResult := by
  refine ⟨fun s o => ⟨operand16_onlyReads o s, ?addd, ?subd, ?cpd, ?cpx, ?cpy⟩,
    fun _ => rfl, fun _ => rfl, fun _ => rfl, fun _ => rfl, fun _ => rfl⟩
  case addd => exact congrArg Host.Outcome.next (aluD_eq_of (op16 := addOp16) (sum16_eq_add _ _) (addFlags16_eq _ _ _))
  case subd => exact congrArg Host.Outcome.next (aluD_eq_of (op16 := subOp16) (diff16_eq_sub _ _) (subFlags16_eq _ _ _))
  case cpd => exact congrArg Host.Outcome.next (compare16_eq_of (subFlags16_eq _ _ _))
  case cpx => exact congrArg Host.Outcome.next (compare16_eq_of (subFlags16_eq _ _ _))
  case cpy => exact congrArg Host.Outcome.next (compare16_eq_of (subFlags16_eq _ _ _))

end Sys2Proof.Proofs
end

section
/-! Proofs. The counting and adjusting of index registers and stack pointer, the product and the quotients
(40_arithmetic.md R201, R202, R215 to R217; 43_incdec_clear_set.md R283 to R285, R289 to R291; 44_transfer.md R334 to
R337). -/

namespace Sys2Proof.Proofs

open Sys2Proof.Machine

/-! ### Index registers and stack pointer -/

/-- Counting up reaches 0 from the greatest word only. -/
theorem zOnly16_add_one (w : Word) (f : Ccr) : zOnly16 (w + 1#16) f = { f with z := decide (w = 0xFFFF#16) } := by
  have zero : w + 1#16 = 0#16 ↔ w = 0xFFFF#16 := by bv_omega
  exact Ccr.ext rfl rfl rfl rfl rfl (decide_eq_decide.2 zero) rfl rfl

/-- Counting down reaches 0 from 1 only. -/
theorem zOnly16_sub_one (w : Word) (f : Ccr) : zOnly16 (w - 1#16) f = { f with z := decide (w = 1#16) } := by
  have zero : w - 1#16 = 0#16 ↔ w = 1#16 := word_sub_eq_zero_iff w 1#16
  exact Ccr.ext rfl rfl rfl rfl rfl (decide_eq_decide.2 zero) rfl rfl

/-- R201: B is added as an unsigned byte. -/
theorem add_zext16_eq_ofNat (w : Word) (b : Byte) : w + zext16 b = BitVec.ofNat 16 (w.toNat + b.toNat) :=
  BitVec.eq_of_toNat_eq (toNat_add_zext16 w b)

/-- Settles O24: Z says where a count wraps, and an offset is unsigned; the rest is the model's register updates. -/
theorem pointerArithmeticResult : Obligations.PointerArithmeticResult := by
  refine ⟨fun s => ⟨?inx, ?iny, ?dex, ?dey, rfl, rfl, ?abx, ?aby, rfl, rfl, rfl, rfl⟩, ?encodings⟩
  case inx => exact congrArg (fun f => Host.Outcome.next ((s.setIX _).setCcr f)) (zOnly16_add_one s.ix s.ccr)
  case iny => exact congrArg (fun f => Host.Outcome.next ((s.setIY _).setCcr f)) (zOnly16_add_one s.iy s.ccr)
  case dex => exact congrArg (fun f => Host.Outcome.next ((s.setIX _).setCcr f)) (zOnly16_sub_one s.ix s.ccr)
  case dey => exact congrArg (fun f => Host.Outcome.next ((s.setIY _).setCcr f)) (zOnly16_sub_one s.iy s.ccr)
  case abx => exact congrArg (fun w => Host.Outcome.next (s.setIX w)) (add_zext16_eq_ofNat s.ix s.b)
  case aby => exact congrArg (fun w => Host.Outcome.next (s.setIY w)) (add_zext16_eq_ofNat s.iy s.b)
  case encodings => and_intros <;> rfl

/-! ### The product -/

/-- The product of two bytes fits in a word. -/
theorem product_toNat (a b : Byte) : (product a b).toNat = a.toNat * b.toNat := by
  have fits : a.toNat * b.toNat < 256 * 256 := Nat.mul_lt_mul'' a.isLt b.isLt
  rw [product, BitVec.toNat_ofNat, Nat.mod_eq_of_lt fits]

@[simp] theorem setD_d (s : State) (w : Word) : (s.setD w).d = w := join_hi_lo w

/-- Settles O13: the product is exact, and its bit 7 is that of its low half. -/
theorem multiplyResult : Obligations.MultiplyResult := by
  refine ⟨rfl, fun s =>
    ⟨(s.setD (product s.a s.b)).setCcr (mulFlags (product s.a s.b) s.ccr), rfl, ?product, ?flags, rfl⟩⟩
  case product => exact (congrArg BitVec.toNat (setD_d s _)).trans (product_toNat s.a s.b)
  case flags =>
    have bit : (lo (product s.a s.b)).getLsbD 7 = (product s.a s.b).getLsbD 7 := by
      rw [lo, BitVec.getLsbD_extractLsb']
      rfl
    exact Ccr.ext rfl rfl rfl rfl rfl rfl rfl bit.symm

/-! ### The quotients -/

theorem integerDivide_of_zero {s : State} (zero : s.ix = 0#16) :
    integerDivide s = (((s.setIX 0xFFFF#16).setD (Config.freeWord s.draws)).setCcr
      { s.ccr with z := false, v := false, c := true }).setDraws (s.draws + 1) :=
  if_pos zero

theorem integerDivide_of_ne_zero {s : State} (nonzero : s.ix ≠ 0#16) :
    integerDivide s = ((s.setIX (s.d / s.ix)).setD (s.d % s.ix)).setCcr
      { s.ccr with z := decide (s.d / s.ix = 0#16), v := false, c := false } :=
  if_neg nonzero

theorem fractionalDivide_of_le {s : State} (overflow : s.ix.toNat ≤ s.d.toNat) :
    fractionalDivide s = (((s.setIX 0xFFFF#16).setD (Config.freeWord s.draws)).setCcr
      { s.ccr with z := false, v := true, c := decide (s.ix = 0#16) }).setDraws (s.draws + 1) :=
  if_pos overflow

/-- The quotient of R216, of the dividend with sixteen zero bits after it. -/
def fractionQuotient (s : State) : Word := BitVec.ofNat 16 (s.d.toNat * 65536 / s.ix.toNat)

/-- The remainder of R216. -/
def fractionRemainder (s : State) : Word := BitVec.ofNat 16 (s.d.toNat * 65536 % s.ix.toNat)

theorem fractionalDivide_of_lt {s : State} (proper : s.d.toNat < s.ix.toNat) :
    fractionalDivide s = ((s.setIX (fractionQuotient s)).setD (fractionRemainder s)).setCcr
      { s.ccr with z := decide (fractionQuotient s = 0#16), v := false, c := false } :=
  if_neg (Nat.not_le.2 proper)

/-- The quotient of a proper fraction fits in a word. -/
theorem fractionQuotient_toNat {s : State} (proper : s.d.toNat < s.ix.toNat) :
    (fractionQuotient s).toNat = s.d.toNat * 65536 / s.ix.toNat := by
  have fits : s.d.toNat * 65536 / s.ix.toNat < 65536 :=
    Nat.div_lt_of_lt_mul (Nat.mul_lt_mul_of_pos_right proper (by decide))
  rw [fractionQuotient, BitVec.toNat_ofNat, Nat.mod_eq_of_lt fits]

/-- A remainder is below the divisor, a word. -/
theorem fractionRemainder_toNat {s : State} (proper : s.d.toNat < s.ix.toNat) :
    (fractionRemainder s).toNat = s.d.toNat * 65536 % s.ix.toNat := by
  have fits : s.d.toNat * 65536 % s.ix.toNat < 2 ^ 16 :=
    Nat.lt_trans (Nat.mod_lt _ (Nat.zero_lt_of_lt proper)) s.ix.isLt
  rw [fractionRemainder, BitVec.toNat_ofNat, Nat.mod_eq_of_lt fits]

/-- Settles O14, branch by branch: a failed division leaves D a free word, and the others fit. -/
theorem divideResult : Obligations.DivideResult := by
  refine ⟨rfl, rfl, fun s => ⟨fun zero => ?byZero, fun nonzero => ?integer, fun overflow => ?overflow,
    fun proper => ?fraction⟩⟩
  case byZero => exact ⟨Config.freeWord s.draws, congrArg Host.Outcome.next (integerDivide_of_zero zero)⟩
  case integer =>
    exact ⟨s.d / s.ix, s.d % s.ix, BitVec.toNat_udiv, BitVec.toNat_umod,
      congrArg Host.Outcome.next (integerDivide_of_ne_zero nonzero)⟩
  case overflow => exact ⟨Config.freeWord s.draws, congrArg Host.Outcome.next (fractionalDivide_of_le overflow)⟩
  case fraction =>
    exact ⟨fractionQuotient s, fractionRemainder s, fractionQuotient_toNat proper, fractionRemainder_toNat proper,
      congrArg Host.Outcome.next (fractionalDivide_of_lt proper)⟩

end Sys2Proof.Proofs
end

section
/-! Proofs. Decimal adjustment (40_arithmetic.md R208; 93_implementation_defined.md U3). An addition of packed bytes
adds the digits in columns, `low` the sum of the low digits with the carry-in and `high` that of the high digits; A, H
and C after it are those of `16 * high + low`, and a digit is corrected where its column, with the carry of the column
below, passes 9. -/

namespace Sys2Proof.Proofs

open Sys2Proof.Machine

/-! ### Packed bytes -/

/-- The digits of a number below 100 stand in the halves of its packed byte. -/
theorem packedDecimal_toNat {n : Nat} (bound : n < 100) : (packedDecimal n).toNat = 16 * (n / 10) + n % 10 := by
  rw [packedDecimal, BitVec.toNat_ofNat]
  omega

/-- The two corrections share no bit, so that their OR is their sum. -/
theorem decimalCorrection_toNat (a : Byte) (h c : Bool) :
    (decimalCorrection a h c).toNat =
      (if 9 < a.toNat % 16 ∨ h then 6 else 0) +
      16 * (if 9 < a.toNat / 16 ∨ c ∨ (8 < a.toNat / 16 ∧ 9 < a.toNat % 16) then 6 else 0) := by
  unfold decimalCorrection
  dsimp only
  split <;> split <;> rfl

/-! ### What the addition leaves -/

/-- A, H and C after packed bytes have been added, `low` and `high` the sums of their columns. -/
structure ColumnSums (low high : Nat) (a : Byte) (h c : Bool) : Prop where
  sum : a.toNat = (16 * high + low) % 256
  half : h = decide (15 < low)
  carry : c = decide (255 < 16 * high + low)
  lowBound : low ≤ 19
  highBound : high ≤ 18

/-- R203: an addition with carry of packed bytes. -/
theorem columnSums_of_packed {p q : Nat} (boundP : p < 100) (boundQ : q < 100) (k : Bool) (f : Ccr) :
    let flags := addFlags8 (packedDecimal p) (packedDecimal q) k f
    ColumnSums (p % 10 + q % 10 + k.toNat) (p / 10 + q / 10)
      (sum8 (packedDecimal p) (packedDecimal q) k) flags.h flags.c := by
  have carryIn := Bool.toNat_le k
  refine ⟨?sum, ?half, ?carry, by omega, by omega⟩
  case sum =>
    rw [sum8, BitVec.toNat_ofNat, bitNat_eq_toNat, packedDecimal_toNat boundP, packedDecimal_toNat boundQ]
    omega
  case half | carry =>
    simp only [addFlags8, bitNat_eq_toNat, packedDecimal_toNat boundP, packedDecimal_toNat boundQ, decide_eq_decide]
    omega

section ColumnSums

variable {low high : Nat} {a : Byte} {h c : Bool}

/-- Such a state is one for which R208 fixes the result (log entry 11). -/
theorem ColumnSums.isDecimalSum (sums : ColumnSums low high a h c) : isDecimalSum a h c = true := by
  obtain ⟨sum, rfl, rfl, lowBound, highBound⟩ := sums
  have half : bitNat (decide (15 < low)) = low / 16 := by
    simp only [bitNat, decide_eq_true_eq]
    split <;> omega
  simp only [Machine.isDecimalSum, half, Bool.and_eq_true, Bool.or_eq_true, decide_eq_true_eq,
    Bool.not_eq_true', decide_eq_false_iff_not]
  refine ⟨?highDigit, ?lowDigit⟩
  case highDigit => split <;> rw [decide_eq_true_iff] <;> omega
  case lowDigit => omega

/-- A digit is corrected exactly where its column, with what the column below carries into it, passes 9. -/
theorem ColumnSums.correction (sums : ColumnSums low high a h c) :
    (decimalCorrection a h c).toNat = (if 9 < low then 6 else 0) + 16 * (if 9 < high + low / 10 then 6 else 0) := by
  obtain ⟨sum, rfl, rfl, lowBound, highBound⟩ := sums
  have lowDigit : (9 < a.toNat % 16 ∨ decide (15 < low) = true) ↔ 9 < low := by
    rw [decide_eq_true_iff]
    omega
  have highDigit : (9 < a.toNat / 16 ∨ decide (255 < 16 * high + low) = true ∨
      (8 < a.toNat / 16 ∧ 9 < a.toNat % 16)) ↔ 9 < high + low / 10 := by
    rw [decide_eq_true_iff]
    omega
  simp only [decimalCorrection_toNat, lowDigit, highDigit]

/-- Six more take a column from base 10 to base 16, its carry along. -/
theorem add_six_eq_digits {n : Nat} (bound : n ≤ 19) : n + (if 9 < n then 6 else 0) = 16 * (n / 10) + n % 10 := by
  split <;> omega

/-- The corrected byte is the packed sum. -/
theorem ColumnSums.corrected (sums : ColumnSums low high a h c) :
    sum8 a (decimalCorrection a h c) false = packedDecimal ((10 * high + low) % 100) := by
  have lowBound := sums.lowBound
  have highBound := sums.highBound
  have lowColumn := add_six_eq_digits lowBound
  have highColumn := add_six_eq_digits (n := high + low / 10) (by omega)
  have tens : (10 * high + low) % 100 / 10 = (high + low / 10) % 10 := by omega
  have units : (10 * high + low) % 100 % 10 = low % 10 := by omega
  apply BitVec.eq_of_toNat_eq
  rw [packedDecimal_toNat (Nat.mod_lt _ (by decide)), tens, units, sum8, BitVec.toNat_ofNat, sums.correction, sums.sum,
    bitNat_eq_toNat, Bool.toNat_false, Nat.add_zero, Nat.mod_add_mod]
  omega

/-- The carry out of the addition or of the correction is the decimal carry. -/
theorem ColumnSums.decimalCarry (sums : ColumnSums low high a h c) :
    (c || decide (255 < a.toNat + (decimalCorrection a h c).toNat)) = decide (99 < 10 * high + low) := by
  rw [sums.correction, sums.sum, sums.carry, ← Bool.decide_or, decide_eq_decide]
  have lowBound := sums.lowBound
  have highBound := sums.highBound
  split <;> split <;> omega

end ColumnSums

/-! ### The adjustment -/

/-- The value that A takes. -/
def adjustedA (s : State) : Byte :=
  if isDecimalSum s.a s.ccr.h s.ccr.c then sum8 s.a (decimalCorrection s.a s.ccr.h s.ccr.c) false
  else Config.freeByte s.draws

/-- The value that C takes. -/
def adjustedC (s : State) : Bool :=
  if isDecimalSum s.a s.ccr.h s.ccr.c then
    s.ccr.c || decide (255 < s.a.toNat + (decimalCorrection s.a s.ccr.h s.ccr.c).toNat)
  else Config.freeBit (s.draws + 1)

theorem decimalAdjust_eq (s : State) :
    decimalAdjust s = { s with
      a := adjustedA s
      ccr := { s.ccr with
        n := decide ((adjustedA s).toInt < 0), z := decide (adjustedA s = 0#8), v := Config.freeBit s.draws
        c := adjustedC s }
      draws := s.draws + 2 } := by
  rw [← BitVec.msb_eq_toInt]
  rfl

/-- After an addition of packed bytes A and C are the decimal sum. -/
theorem decimalAdjust_of_columnSums {s : State} {low high : Nat} (sums : ColumnSums low high s.a s.ccr.h s.ccr.c) :
    (decimalAdjust s).a = packedDecimal ((10 * high + low) % 100) ∧
      (decimalAdjust s).ccr.c = decide (99 < 10 * high + low) := by
  rw [decimalAdjust_eq]
  exact ⟨(if_pos sums.isDecimalSum).trans sums.corrected, (if_pos sums.isDecimalSum).trans sums.decimalCarry⟩

/-- Settles O15: what ADCA leaves of packed operands are column sums, from which DAA makes the decimal sum. -/
theorem decimalAdjustResult : Obligations.DecimalAdjustResult := by
  refine ⟨rfl, fun s => ?frame, fun s p q boundP boundQ packed => ?decimal⟩
  case frame => exact ⟨_, _, _, congrArg Host.Outcome.next (decimalAdjust_eq s)⟩
  case decimal =>
    intro total
    have sums := columnSums_of_packed boundP boundQ s.ccr.c s.ccr
    have columns : 10 * (p / 10 + q / 10) + (p % 10 + q % 10 + s.ccr.c.toNat) = total := by omega
    rw [← packed] at sums
    rw [← columns]
    exact ⟨aluA adcOp (.imm (packedDecimal q)) s, _, rfl, rfl, decimalAdjust_of_columnSums sums⟩

end Sys2Proof.Proofs
end

section
/-! Proofs. Shifts and rotates (41_shift_rotate.md R230 to R250; 00_scope.md R13): the bit operations as arithmetic,
and the two shapes of a one-operand instruction, in memory and in an accumulator. -/

namespace Sys2Proof.Proofs

open Sys2Proof.Machine

/-! ### One-operand instructions, from a result and flags -/

/-- What an operation makes of the operand `m` under the flags `f`: the result `r` and the flags `g`. -/
structure Computes (op : UnaryOp) (m : Byte) (f : Ccr) (r : Byte) (g : Ccr) : Prop where
  result : op.result m f = r
  flags : op.flags m f = g

section Computes

variable {i : Instr} {op : UnaryOp} {o : Addr} {s : State} {r : Byte} {g : Ccr}

/-- R66: the memory form reads its byte and writes the result once to the same address. -/
theorem Computes.readsThenWrites (computes : Computes op (readByte (ea o s) s).1 s.ccr r g)
    (meaning : exec i s = .next (modify op o s)) (memory : s.mem.wf = true) : ReadsThenWrites i o r g s := by
  obtain ⟨rfl, rfl⟩ := computes
  have written : Machine.modify op o s = writeByte (ea o s) (op.result (readByte (ea o s) s).1 s.ccr)
      { (readByte (ea o s) s).2 with ccr := op.flags (readByte (ea o s) s).1 s.ccr } := by
    simp only [Machine.modify, readByte_ccr, State.setCcr]
  have registers : { s with ccr := op.flags (readByte (ea o s) s).1 s.ccr } = s.withRegisters (modify op o s) := by
    simp [State.withRegisters]
  unfold ReadsThenWrites
  rw [← written]
  exact ⟨meaning, (modify_accessed op o s).onlyAccess registers, modify_storesOnly memory op o⟩

theorem Computes.inA (computes : Computes op s.a s.ccr r g) (meaning : exec i s = .next (modifyA op s)) :
    exec i s = .next { s with a := r, ccr := g } := by
  obtain ⟨rfl, rfl⟩ := computes
  exact meaning

theorem Computes.inB (computes : Computes op s.b s.ccr r g) (meaning : exec i s = .next (modifyB op s)) :
    exec i s = .next { s with b := r, ccr := g } := by
  obtain ⟨rfl, rfl⟩ := computes
  exact meaning

end Computes

/-! ### The bit operations as arithmetic -/

theorem shiftLeft_one_eq_ofNat {w : Nat} (m : BitVec w) : m <<< 1 = BitVec.ofNat w (2 * m.toNat) := by
  apply BitVec.eq_of_toNat_eq
  rw [BitVec.toNat_shiftLeft, BitVec.toNat_ofNat, Nat.shiftLeft_eq, Nat.pow_one, Nat.mul_comm]

theorem ushiftRight_one_eq_ofNat {w : Nat} (m : BitVec w) : m >>> 1 = BitVec.ofNat w (m.toNat / 2) := by
  have fits : m.toNat / 2 < 2 ^ w := Nat.lt_of_le_of_lt (Nat.div_le_self _ _) m.isLt
  apply BitVec.eq_of_toNat_eq
  rw [BitVec.toNat_ushiftRight, BitVec.toNat_ofNat, Nat.shiftRight_eq_div_pow, Nat.pow_one, Nat.mod_eq_of_lt fits]

/-- R234: a right shift that keeps bit 7 is the arithmetic one. -/
theorem ushiftRight_or_sign (m : Byte) : m >>> 1 ||| m &&& 0x80#8 = m.sshiftRight 1 := by
  apply BitVec.eq_of_getLsbD_eq
  intro i bound
  have signBit : (0x80#8).getLsbD i = decide (7 = i) := BitVec.getLsbD_twoPow (w := 8) 7 i
  rw [BitVec.getLsbD_sshiftRight, BitVec.getLsbD_or, BitVec.getLsbD_and, BitVec.getLsbD_ushiftRight, signBit,
    BitVec.msb_eq_getLsbD_last]
  by_cases sign : 7 = i
  · subst sign
    simp
  · have below : 1 + i < 8 := by omega
    simp [sign, below, bound]

/-- The signed number halved, rounding down. -/
theorem sshiftRight_one_eq_ofInt {w : Nat} (m : BitVec w) : m.sshiftRight 1 = BitVec.ofInt w (m.toInt / 2) := by
  rw [BitVec.sshiftRight_eq, Int.shiftRight_eq_div_pow]
  rfl

theorem toNat_carryIn (c : Bool) : ((BitVec.ofBool c).setWidth 8).toNat = c.toNat := by
  cases c <;> rfl

theorem rolByte_eq_ofNat (m : Byte) (c : Bool) : rolByte m c = BitVec.ofNat 8 (2 * m.toNat + c.toNat) := by
  have carryIn : c.toNat < 2 ^ 1 := Bool.toNat_lt c
  have shifted : m.toNat <<< 1 % 2 ^ 8 = 2 ^ 1 * (m.toNat % 128) := by omega
  apply BitVec.eq_of_toNat_eq
  rw [rolByte, BitVec.toNat_or, BitVec.toNat_shiftLeft, toNat_carryIn, shifted,
    ← Nat.two_pow_add_eq_or_of_lt carryIn, BitVec.toNat_ofNat]
  omega

theorem rorByte_eq_ofNat (m : Byte) (c : Bool) : rorByte m c = BitVec.ofNat 8 (m.toNat / 2 + 128 * c.toNat) := by
  have bound := m.isLt
  have carryIn := Bool.toNat_lt c
  have low : m.toNat / 2 < 2 ^ 7 := by omega
  have high : c.toNat <<< 7 % 2 ^ 8 = 2 ^ 7 * c.toNat := by omega
  apply BitVec.eq_of_toNat_eq
  rw [rorByte, BitVec.toNat_or, BitVec.toNat_ushiftRight, BitVec.toNat_shiftLeft, toNat_carryIn, high, Nat.or_comm,
    Nat.shiftRight_eq_div_pow, Nat.pow_one, ← Nat.two_pow_add_eq_or_of_lt low, BitVec.toNat_ofNat]
  omega

/-! ### The operations -/

/-- R13: the flags of a shift follow from its result, whose bit 7 `shiftFlags8` calls `msb`, and the bit that leaves. -/
theorem Computes.of_shift {op : UnaryOp} {m r : Byte} {f : Ccr} (out : Bool) (result : op.result m f = r)
    (flags : op.flags m f = shiftFlags8 (op.result m f) out f) : Computes op m f r (shiftFlags8 r out f) :=
  ⟨result, result ▸ flags⟩

theorem aslOp_computes (m : Byte) (f : Ccr) :
    Computes aslOp m f (BitVec.ofNat 8 (2 * m.toNat))
      (shiftFlags8 (BitVec.ofNat 8 (2 * m.toNat)) (m.getLsbD 7) f) :=
  .of_shift _ (shiftLeft_one_eq_ofNat m) rfl

theorem asrOp_computes (m : Byte) (f : Ccr) :
    Computes asrOp m f (BitVec.ofInt 8 (m.toInt / 2))
      (shiftFlags8 (BitVec.ofInt 8 (m.toInt / 2)) (m.getLsbD 0) f) :=
  .of_shift _ ((ushiftRight_or_sign m).trans (sshiftRight_one_eq_ofInt m)) rfl

theorem lsrOp_computes (m : Byte) (f : Ccr) :
    Computes lsrOp m f (BitVec.ofNat 8 (m.toNat / 2))
      (shiftFlags8 (BitVec.ofNat 8 (m.toNat / 2)) (m.getLsbD 0) f) :=
  .of_shift _ (ushiftRight_one_eq_ofNat m) rfl

theorem rolOp_computes (m : Byte) (f : Ccr) :
    Computes rolOp m f (BitVec.ofNat 8 (2 * m.toNat + f.c.toNat))
      (shiftFlags8 (BitVec.ofNat 8 (2 * m.toNat + f.c.toNat)) (m.getLsbD 7) f) :=
  .of_shift _ (rolByte_eq_ofNat m f.c) rfl

theorem rorOp_computes (m : Byte) (f : Ccr) :
    Computes rorOp m f (BitVec.ofNat 8 (m.toNat / 2 + 128 * f.c.toNat))
      (shiftFlags8 (BitVec.ofNat 8 (m.toNat / 2 + 128 * f.c.toNat)) (m.getLsbD 0) f) :=
  .of_shift _ (rorByte_eq_ofNat m f.c) rfl

/-! ### The double accumulator -/

theorem shiftLeftD_eq (s : State) :
    shiftLeftD s = { s with ccr := shiftFlags16 (BitVec.ofNat 16 (2 * s.d.toNat)) (s.d.getLsbD 15) s.ccr }.setD
      (BitVec.ofNat 16 (2 * s.d.toNat)) := by
  rw [← shiftLeft_one_eq_ofNat]
  rfl

/-- R244: bit 15 of a word shifted right is 0, so that V is C, and bit 0 of D is that of B. -/
theorem shiftRightD_eq (s : State) :
    shiftRightD s = { s with ccr := { s.ccr with
      n := false, z := decide (BitVec.ofNat 16 (s.d.toNat / 2) = 0#16), v := s.b.getLsbD 0, c := s.b.getLsbD 0 }
      }.setD (BitVec.ofNat 16 (s.d.toNat / 2)) := by
  have positive : (s.d >>> 1).msb = false := BitVec.msb_ushiftRight
  have out : s.d.getLsbD 0 = s.b.getLsbD 0 := BitVec.getLsbD_append
  rw [← ushiftRight_one_eq_ofNat, shiftRightD, shiftFlags16, nz16, positive, out, Bool.false_xor]
  rfl

/-! ### The instructions -/

/-- Settles O16: each form's shape over the doubling; the LSL names have the meanings of the ASL names. -/
theorem shiftLeftResult : Obligations.ShiftLeftResult := by
  refine ⟨fun s o memory => ?memory, fun s => ⟨?asla, ?lsla, ?aslb, ?lslb, ?asld, ?lsld⟩, fun _ => rfl, fun _ => rfl,
    rfl, rfl, rfl, rfl, rfl, rfl⟩
  case memory =>
    have doubled := aslOp_computes (readByte (ea (rmwAddr o) s) s).1 s.ccr
    exact ⟨doubled.readsThenWrites rfl memory, doubled.readsThenWrites rfl memory⟩
  case asla | lsla => exact (aslOp_computes s.a s.ccr).inA rfl
  case aslb | lslb => exact (aslOp_computes s.b s.ccr).inB rfl
  case asld | lsld => exact congrArg Host.Outcome.next (shiftLeftD_eq s)

/-- Settles O17: each form's shape over the signed or the unsigned halving. -/
theorem shiftRightResult : Obligations.ShiftRightResult := by
  refine ⟨fun s o memory => ⟨?asr, ?lsr⟩, fun s => ⟨?asra, ?asrb, ?lsra, ?lsrb, ?lsrd⟩, fun _ => rfl, fun _ => rfl,
    rfl, rfl, rfl, rfl, rfl⟩
  case asr => exact (asrOp_computes _ s.ccr).readsThenWrites rfl memory
  case lsr => exact (lsrOp_computes _ s.ccr).readsThenWrites rfl memory
  case asra => exact (asrOp_computes s.a s.ccr).inA rfl
  case asrb => exact (asrOp_computes s.b s.ccr).inB rfl
  case lsra => exact (lsrOp_computes s.a s.ccr).inA rfl
  case lsrb => exact (lsrOp_computes s.b s.ccr).inB rfl
  case lsrd => exact congrArg Host.Outcome.next (shiftRightD_eq s)

/-- Settles O18: each form's shape over the rotation of the nine bits. -/
theorem rotateResult : Obligations.RotateResult := by
  refine ⟨fun s o memory => ⟨?rol, ?ror⟩, fun s => ⟨?rola, ?rolb, ?rora, ?rorb⟩, fun _ => rfl, fun _ => rfl,
    rfl, rfl, rfl, rfl⟩
  case rol => exact (rolOp_computes _ s.ccr).readsThenWrites rfl memory
  case ror => exact (rorOp_computes _ s.ccr).readsThenWrites rfl memory
  case rola => exact (rolOp_computes s.a s.ccr).inA rfl
  case rolb => exact (rolOp_computes s.b s.ccr).inB rfl
  case rora => exact (rorOp_computes s.a s.ccr).inA rfl
  case rorb => exact (rorOp_computes s.b s.ccr).inB rfl

end Sys2Proof.Proofs
end

section
/-! Proofs. Logic, bit tests and complements (42_logic_complement.md R260 to R271; 45_test_compare.md R350, R351;
00_scope.md R12): the flags of a bitwise result, and those of a complement from its operand. -/

namespace Sys2Proof.Proofs

open Sys2Proof.Machine

/-! ### The flags -/

/-- R12, with N as bit 7 of the result and Z as the number 0. -/
theorem logic8_eq (r : Byte) (f : Ccr) :
    logic8 r f = { f with n := r.getLsbD 7, z := decide (r.toNat = 0), v := false } := by
  refine Ccr.ext rfl rfl rfl rfl ?n ?z rfl rfl
  case n => exact BitVec.msb_eq_getLsbD_last r
  case z => exact decide_eq_decide.2 (BitVec.toNat_inj (y := 0#8)).symm

/-- R266, from the operand: bit 7 is turned over, and $FF alone has the complement 0. -/
theorem comFlags_not (m : Byte) (f : Ccr) :
    comFlags (~~~m) f = { f with n := !m.getLsbD 7, z := decide (m = 0xFF#8), v := false, c := true } := by
  refine Ccr.ext rfl rfl rfl rfl ?n ?z rfl rfl
  case n => exact BitVec.msb_not (x := m)
  case z => exact decide_eq_decide.2 (BitVec.not_inj (y := 0xFF#8))

/-- R269, from the operand: 0 and $80 are the two bytes that are their own negation. -/
theorem negFlags_neg (m : Byte) (f : Ccr) :
    negFlags (-m) f =
      { f with n := (-m).getLsbD 7, z := decide (m = 0#8), v := decide (m = 0x80#8), c := decide (m ≠ 0#8) } := by
  have zero : -m = 0#8 ↔ m = 0#8 := BitVec.neg_eq_zero_iff
  refine Ccr.ext rfl rfl rfl rfl ?n ?z ?v ?c
  case n => exact BitVec.msb_eq_getLsbD_last (-m)
  case z => exact decide_eq_decide.2 zero
  case v => exact decide_eq_decide.2 (BitVec.neg_inj (y := 0x80#8))
  case c => exact decide_eq_decide.2 (not_congr zero)

/-! ### The operations -/

/-- R266: `$FF - m` inverts every bit. -/
theorem comOp_computes (m : Byte) (f : Ccr) :
    Computes comOp m f (~~~m) { f with n := !m.getLsbD 7, z := decide (m = 0xFF#8), v := false, c := true } := by
  have inverted : 0xFF#8 - m = ~~~m := BitVec.allOnes_sub_eq_not m
  exact ⟨inverted, (congrArg (comFlags · f) inverted).trans (comFlags_not m f)⟩

/-- R269: `$00 - m` is the negation. -/
theorem negOp_computes (m : Byte) (f : Ccr) :
    Computes negOp m f (-m)
      { f with n := (-m).getLsbD 7, z := decide (m = 0#8), v := decide (m = 0x80#8), c := decide (m ≠ 0#8) } := by
  have negated : 0#8 - m = -m := BitVec.zero_sub m
  exact ⟨negated, (congrArg (negFlags · f) negated).trans (negFlags_neg m f)⟩

/-! ### The instructions -/

/-- Settles O19: the one flag computation of R12 over the operand's shape; a bit test is AND without its
write-back. -/
theorem logicResult : Obligations.LogicResult := by
  refine ⟨fun s o => ⟨operand8_onlyReads o s, ?anda, ?andb, ?eora, ?eorb, ?oraa, ?orab, ?bita, ?bitb⟩,
    fun _ => rfl, fun _ => rfl, fun _ => rfl, fun _ => rfl, fun _ => rfl, fun _ => rfl, fun _ => rfl, fun _ => rfl⟩
  case anda => exact congrArg Host.Outcome.next (aluA_eq_of (op := andOp) rfl (logic8_eq _ _))
  case andb => exact congrArg Host.Outcome.next (aluB_eq_of (op := andOp) rfl (logic8_eq _ _))
  case eora => exact congrArg Host.Outcome.next (aluA_eq_of (op := eorOp) rfl (logic8_eq _ _))
  case eorb => exact congrArg Host.Outcome.next (aluB_eq_of (op := eorOp) rfl (logic8_eq _ _))
  case oraa => exact congrArg Host.Outcome.next (aluA_eq_of (op := oraOp) rfl (logic8_eq _ _))
  case orab => exact congrArg Host.Outcome.next (aluB_eq_of (op := oraOp) rfl (logic8_eq _ _))
  case bita => exact congrArg Host.Outcome.next (testA_eq_of (op := andOp) (logic8_eq _ _))
  case bitb => exact congrArg Host.Outcome.next (testB_eq_of (op := andOp) (logic8_eq _ _))

/-- Settles O20: each form's shape over the complement or the negation. -/
theorem complementResult : Obligations.ComplementResult := by
  refine ⟨fun s o memory => ⟨?com, ?neg⟩, fun s => ⟨?coma, ?comb, ?nega, ?negb⟩, fun _ => rfl, fun _ => rfl,
    rfl, rfl, rfl, rfl⟩
  case com => exact (comOp_computes _ s.ccr).readsThenWrites rfl memory
  case neg => exact (negOp_computes _ s.ccr).readsThenWrites rfl memory
  case coma => exact (comOp_computes s.a s.ccr).inA rfl
  case comb => exact (comOp_computes s.b s.ccr).inB rfl
  case nega => exact (negOp_computes s.a s.ccr).inA rfl
  case negb => exact (negOp_computes s.b s.ccr).inB rfl

end Sys2Proof.Proofs
end

section
/-! Proofs. Increments, decrements, clears, tests, masked bits and single flags (43_incdec_clear_set.md R280 to R282,
R286 to R288, R293 to R303; 45_test_compare.md R358 to R360): the flags of each operation from its operand, put into the
two shapes of a one-operand instruction. -/

namespace Sys2Proof.Proofs

open Sys2Proof.Machine

/-! ### Increments and decrements -/

/-- R286: the sum is 0 after $FF alone, and $7F is the one operand whose signed successor does not fit. -/
theorem incFlags_eq (m : Byte) (f : Ccr) :
    incFlags m f =
      { f with n := decide ((m + 1#8).toInt < 0), z := decide (m = 0xFF#8), v := decide (127 < m.toInt + 1) } := by
  have zero : m + 1#8 = 0#8 ↔ m = 0xFF#8 := BitVec.add_left_inj (x := m) (y := 0xFF#8) 1#8
  have greatest : m = 0x7F#8 ↔ m.toInt = 127 := (BitVec.toInt_inj (y := 0x7F#8)).symm
  have bound : m.toInt < 128 := m.toInt_lt
  refine Ccr.ext rfl rfl rfl rfl ?n ?z ?v rfl
  case n => exact BitVec.msb_eq_toInt (x := m + 1#8)
  case z => exact decide_eq_decide.2 zero
  case v => exact decide_eq_decide.2 (greatest.trans (by omega))

/-- R280: the difference is 0 after $01 alone, and $80 is the one operand whose signed predecessor does not fit. -/
theorem decFlags_eq (m : Byte) (f : Ccr) :
    decFlags m f =
      { f with n := decide ((m - 1#8).toInt < 0), z := decide (m = 0x01#8), v := decide (m.toInt - 1 < -128) } := by
  have zero : m - 1#8 = 0#8 ↔ m = 0x01#8 := BitVec.sub_left_inj (x := m) (y := 0x01#8) 1#8
  have least : m = 0x80#8 ↔ m.toInt = -128 := (BitVec.toInt_inj (y := 0x80#8)).symm
  have bound : -128 ≤ m.toInt := m.le_toInt
  refine Ccr.ext rfl rfl rfl rfl ?n ?z ?v rfl
  case n => exact BitVec.msb_eq_toInt (x := m - 1#8)
  case z => exact decide_eq_decide.2 zero
  case v => exact decide_eq_decide.2 (least.trans (by omega))

theorem incOp_computes (m : Byte) (f : Ccr) :
    Computes incOp m f (m + 1#8)
      { f with n := decide ((m + 1#8).toInt < 0), z := decide (m = 0xFF#8), v := decide (127 < m.toInt + 1) } :=
  ⟨rfl, incFlags_eq m f⟩

theorem decOp_computes (m : Byte) (f : Ccr) :
    Computes decOp m f (m - 1#8)
      { f with n := decide ((m - 1#8).toInt < 0), z := decide (m = 0x01#8), v := decide (m.toInt - 1 < -128) } :=
  ⟨rfl, decFlags_eq m f⟩

/-- Settles O21: each form's shape over the successor or the predecessor. -/
theorem incrementDecrementResult : Obligations.IncrementDecrementResult := by
  refine ⟨fun s o memory => ⟨?inc, ?dec⟩, fun s => ⟨?inca, ?incb, ?deca, ?decb⟩, fun _ => rfl, fun _ => rfl,
    rfl, rfl, rfl, rfl⟩
  case inc => exact (incOp_computes _ s.ccr).readsThenWrites rfl memory
  case dec => exact (decOp_computes _ s.ccr).readsThenWrites rfl memory
  case inca => exact (incOp_computes s.a s.ccr).inA rfl
  case incb => exact (incOp_computes s.b s.ccr).inB rfl
  case deca => exact (decOp_computes s.a s.ccr).inA rfl
  case decb => exact (decOp_computes s.b s.ccr).inB rfl

/-! ### Clears and tests -/

/-- R293: the operand has no part in what a clear makes. -/
theorem clrOp_computes (m : Byte) (f : Ccr) :
    Computes clrOp m f 0#8 { f with n := false, z := true, v := false, c := false } := ⟨rfl, rfl⟩

/-- R358, with N as the sign of the operand. -/
theorem tstFlags_eq (m : Byte) (f : Ccr) :
    tstFlags m f = { f with n := decide (m.toInt < 0), z := decide (m = 0#8), v := false, c := false } :=
  Ccr.ext rfl rfl rfl rfl (BitVec.msb_eq_toInt (x := m)) rfl rfl rfl

/-- The read changes no flag, so the flags of a test are made from those of the state before. -/
theorem testByte_eq (o : Addr) (s : State) :
    testByte o s = (readByte (ea o s) s).2.setCcr (tstFlags (readByte (ea o s) s).1 s.ccr) := by
  simp only [testByte, readByte_ccr]

/-- Settles O22: each form's shape over the constant 0; a test is its read and then its flags. -/
theorem clearAndTestResult : Obligations.ClearAndTestResult := by
  refine ⟨fun s o memory => ?clr, fun s o => ⟨readByte_onlyReads _ s, ?tst⟩, fun s => ⟨?clra, ?clrb, ?tsta, ?tstb⟩,
    fun _ => rfl, fun _ => rfl, rfl, rfl, rfl, rfl⟩
  case clr => exact (clrOp_computes _ s.ccr).readsThenWrites rfl memory
  case tst =>
    have tested := testByte_eq (rmwAddr o) s
    rw [tstFlags_eq] at tested
    exact congrArg Host.Outcome.next tested
  case clra => exact (clrOp_computes s.a s.ccr).inA rfl
  case clrb => exact (clrOp_computes s.b s.ccr).inB rfl
  case tsta => exact congrArg (fun f => Host.Outcome.next (s.setCcr f)) (tstFlags_eq s.a s.ccr)
  case tstb => exact congrArg (fun f => Host.Outcome.next (s.setCcr f)) (tstFlags_eq s.b s.ccr)

/-! ### Masked bits -/

/-- R12, with N as bit 7 of the result and Z as the zero byte. -/
theorem logic8_eq_of_bits (r : Byte) (f : Ccr) :
    logic8 r f = { f with n := r.getLsbD 7, z := decide (r = 0#8), v := false } :=
  Ccr.ext rfl rfl rfl rfl (BitVec.msb_eq_getLsbD_last r) rfl rfl rfl

theorem bclrOp_computes (mask m : Byte) (f : Ccr) :
    Computes (bclrOp mask) m f (m &&& ~~~mask)
      { f with n := (m &&& ~~~mask).getLsbD 7, z := decide (m &&& ~~~mask = 0#8), v := false } :=
  ⟨rfl, logic8_eq_of_bits _ f⟩

theorem bsetOp_computes (mask m : Byte) (f : Ccr) :
    Computes (bsetOp mask) m f (m ||| mask)
      { f with n := (m ||| mask).getLsbD 7, z := decide (m ||| mask = 0#8), v := false } :=
  ⟨rfl, logic8_eq_of_bits _ f⟩

theorem getLsbD_and_not (m mask : Byte) (k : Fin 8) :
    (m &&& ~~~mask).getLsbD k = (m.getLsbD k && !mask.getLsbD k) := by
  rw [BitVec.getLsbD_and, BitVec.getLsbD_not, decide_eq_true k.isLt, Bool.true_and]

/-- Settles O23: the written bytes are the operand with the mask's bits taken out and put in. -/
theorem bitClearAndSetResult : Obligations.BitClearAndSetResult := by
  refine ⟨fun s o mask memory => ⟨(readByte (ea (bitAddr o) s) s).1 &&& ~~~mask,
    (readByte (ea (bitAddr o) s) s).1 ||| mask, ?cleared, ?set, ?bclr, ?bset⟩, fun _ _ => rfl, fun _ _ => rfl⟩
  case bclr => exact (bclrOp_computes mask _ s.ccr).readsThenWrites rfl memory
  case bset => exact (bsetOp_computes mask _ s.ccr).readsThenWrites rfl memory
  case cleared => exact getLsbD_and_not _ mask
  case set => exact fun _ => BitVec.getLsbD_or

/-! ### Single flags -/

/-- R299: CLI that finds I set clears it and sets the inhibit. -/
theorem execCli_of_set {s : State} (masked : s.ccr.i = true) :
    execCli s = .next { s with ccr := { s.ccr with i := false }, irqInhibit := true } := by
  simp only [execCli, masked, Bool.true_or, State.setIrqInhibit, State.setCcr]

/-- R299: CLI that finds I clear changes nothing, an inhibit that stands included. -/
theorem execCli_of_clear {s : State} (unmasked : s.ccr.i = false) : execCli s = .next s := by
  have flags : { s.ccr with i := false } = s.ccr := Ccr.ext rfl rfl rfl unmasked.symm rfl rfl rfl rfl
  simp only [execCli, unmasked, Bool.false_or, flags, State.setIrqInhibit, State.setCcr]

/-- Settles O25: the two cases of CLI; the rest is the model's flag updates. -/
theorem flagInstructions : Obligations.FlagInstructions :=
  ⟨fun _ => ⟨rfl, rfl, rfl, rfl, rfl, execCli_of_set, execCli_of_clear⟩, rfl, rfl, rfl, rfl, rfl, rfl⟩

end Sys2Proof.Proofs
end

section
/-! Proofs. Relative branches (30_encoding.md R108; 43_incdec_clear_set.md R292; 46_branch_jump.md R370 to R377, R388,
R389): the target as a number, and a branch under its condition. -/

namespace Sys2Proof.Proofs

open Sys2Proof.Machine

/-- R108: the offset is a two's complement byte, the target is taken modulo 2^16. -/
theorem add_sext16_eq_ofInt (w : Word) (rr : Byte) : w + sext16 rr = BitVec.ofInt 16 (w.toNat + rr.toInt) := by
  rw [BitVec.ofInt_add, BitVec.ofInt_natCast, BitVec.ofNat_toNat, BitVec.setWidth_eq]
  rfl

section Branch

variable {i : Instr} {taken : Bool} {rr : Byte} {s : State} {P : Prop} [Decidable P]

theorem branchIf_eq_ite (condition : taken = true ↔ P) :
    branchIf taken rr s = if P then { s with pc := BitVec.ofInt 16 (s.pc.toNat + rr.toInt) } else s := by
  simp only [branchIf, add_sext16_eq_ofInt, condition, State.setPC]

theorem exec_branch_eq_ite (meaning : exec i s = .next (branchIf taken rr s)) (condition : taken = true ↔ P) :
    exec i s = .next (if P then { s with pc := BitVec.ofInt 16 (s.pc.toNat + rr.toInt) } else s) :=
  meaning.trans (congrArg Host.Outcome.next (branchIf_eq_ite condition))

end Branch

/-- Settles O31: each branch tests one flag for set or for clear, BRA tests nothing, BRN and NOP do nothing. -/
theorem simpleBranchResult : Obligations.SimpleBranchResult := by
  refine ⟨fun s rr => ⟨?bcc, ?bcs, ?bne, ?beq, ?bpl, ?bmi, ?bvc, ?bvs, ?bra, rfl, rfl⟩,
    fun _ => ⟨rfl, rfl, rfl, rfl, rfl, rfl, rfl, rfl, rfl, rfl⟩, rfl⟩
  case bcc | bne | bpl | bvc => exact exec_branch_eq_ite rfl (iff_of_eq (Bool.not_eq_true' _))
  case bcs | beq | bmi | bvs => exact exec_branch_eq_ite rfl Iff.rfl
  case bra => exact congrArg (fun target => Host.Outcome.next (s.setPC target)) (add_sext16_eq_ofInt s.pc rr)

end Sys2Proof.Proofs
end

section
/-! Proofs. Loads, stores, pushes, pulls and register transfers (44_transfer.md R310 to R333, R338, R339; 00_scope.md
R12): a load is its operand's read and then a register; a store or a push is its bytes written over the registers it
leaves; CCR as a byte is a binary numeral. -/

namespace Sys2Proof.Proofs

open Sys2Proof.Machine

/-! ### The flags of a byte or a word moved -/

/-- R12, with N as the sign of the byte. -/
theorem logic8_eq_of_sign (m : Byte) (f : Ccr) :
    logic8 m f = { f with n := decide (m.toInt < 0), z := decide (m = 0#8), v := false } :=
  Ccr.ext rfl rfl rfl rfl (BitVec.msb_eq_toInt (x := m)) rfl rfl rfl

/-- R12, with N as the sign of the word. -/
theorem logic16_eq_of_sign (m : Word) (f : Ccr) :
    logic16 m f = { f with n := decide (m.toInt < 0), z := decide (m = 0#16), v := false } :=
  Ccr.ext rfl rfl rfl rfl (BitVec.msb_eq_toInt (x := m)) rfl rfl rfl

/-! ### Loads -/

/-- R312 to R315: reading the operand changes no flag, so a load makes its flags from those of the state before. -/
theorem load16_eq (set : State → Word → State) (o : Src16) (s : State) :
    load16 set o s = (set (operand16 o s).2 (operand16 o s).1).setCcr
      { s.ccr with n := decide ((operand16 o s).1.toInt < 0), z := decide ((operand16 o s).1 = 0#16), v := false } := by
  simp only [load16, operand16_ccr, logic16_eq_of_sign]

/-- Settles O26: a byte load is the operation that answers its operand, over the accumulator's shape; a word load is
one shape over the register's update. -/
theorem loadResult : Obligations.LoadResult := by
  refine ⟨fun s o => ⟨operand8_onlyReads o s, ?ldaa, ?ldab⟩,
    fun s o => ⟨operand16_onlyReads o s, ?ldd, ?lds, ?ldx, ?ldy⟩,
    fun _ => rfl, fun _ => rfl, fun _ => rfl, fun _ => rfl, fun _ => rfl, fun _ => rfl⟩
  case ldaa => exact congrArg Host.Outcome.next (aluA_eq_of (op := loadOp) rfl (logic8_eq_of_sign _ _))
  case ldab => exact congrArg Host.Outcome.next (aluB_eq_of (op := loadOp) rfl (logic8_eq_of_sign _ _))
  case ldd => exact congrArg Host.Outcome.next (load16_eq State.setD o s)
  case lds => exact congrArg Host.Outcome.next (load16_eq State.setSP o s)
  case ldx => exact congrArg Host.Outcome.next (load16_eq State.setIX o s)
  case ldy => exact congrArg Host.Outcome.next (load16_eq State.setIY o s)

/-! ### Instructions that write bytes one after another -/

section Stores

variable {i : Instr} {l : List (Word × Byte)} {o : Addr} {s s' : State} {v : Byte} {w : Word}

/-- An instruction that writes bytes at addresses apart, over a state that differs in its registers alone. -/
theorem storesAs_of_writeAll (memory : s.mem.wf = true) (apart : (l.map Prod.fst).Nodup)
    (meaning : exec i s = .next (writeAll l s')) (registers : s' = s.withRegisters s' := by rfl) :
    StoresAs i l s s' := by
  have memory' : s'.mem.wf = true := (congrArg (fun t => t.mem.wf) registers).trans memory
  have stored : StoresOnly (l.map Prod.fst) l s' (writeAll l s') := writeAll_storesOnly memory' apart
  exact ⟨meaning, writeAll_onlyAccess l s', stored.of_eq ((congrArg State.mem registers).trans rfl)
    ((congrArg State.memMap registers).trans rfl) ((congrArg State.pending registers).trans rfl)
    ((congrArg State.resets registers).trans rfl) ((congrArg State.device registers).trans rfl)⟩

/-- R316, R317. -/
theorem storesAs_of_store8 (memory : s.mem.wf = true) (meaning : exec i s = .next (store8 v o s)) :
    StoresAs i [(ea o s, v)] s
      { s with ccr := { s.ccr with n := decide (v.toInt < 0), z := decide (v = 0#8), v := false } } := by
  refine storesAs_of_writeAll memory (List.pairwise_singleton _ _) ?_
  rw [meaning, store8, logic8_eq_of_sign]
  rfl

/-- R318 to R321: the high byte first. -/
theorem storesAs_of_store16 (memory : s.mem.wf = true) (meaning : exec i s = .next (store16 w o s)) :
    StoresAs i [(ea o s, hi w), (ea o s + 1#16, lo w)] s
      { s with ccr := { s.ccr with n := decide (w.toInt < 0), z := decide (w = 0#16), v := false } } := by
  refine storesAs_of_writeAll memory (word_nodup _) ?_
  rw [meaning, store16, logic16_eq_of_sign]
  rfl

/-- R322, R323. -/
theorem storesAs_of_push8 (memory : s.mem.wf = true) (meaning : exec i s = .next (push8 v s)) :
    StoresAs i [(s.sp, v)] s { s with sp := s.sp - 1#16 } :=
  storesAs_of_writeAll memory (List.pairwise_singleton _ _) (meaning.trans (congrArg Host.Outcome.next (push8_eq v s)))

theorem pushed_word_nodup (a : Word) : [a, a - 1#16].Nodup := by
  have next : a - 1#16 + 1#16 = a := BitVec.sub_add_cancel a 1#16
  have apart : a ≠ a - 1#16 := fun same => Word.ne_succ (a - 1#16) (same.symm.trans next.symm)
  exact List.pairwise_pair.2 apart

/-- R324, R325: the low byte first. -/
theorem storesAs_of_push16 (memory : s.mem.wf = true) (meaning : exec i s = .next (push16 w s)) :
    StoresAs i [(s.sp, lo w), (s.sp - 1#16, hi w)] s { s with sp := s.sp - 2#16 } :=
  storesAs_of_writeAll memory (pushed_word_nodup s.sp) (meaning.trans (congrArg Host.Outcome.next (push16_eq w s)))

end Stores

/-- Settles O27: the two store shapes; D is stored as A and then B because it is their join. -/
theorem storeResult : Obligations.StoreResult := by
  refine ⟨fun s o memory => ⟨?staa, ?stab, ?std, ?sts, ?stx, ?sty⟩,
    fun _ => rfl, fun _ => rfl, fun _ => rfl, fun _ => rfl, fun _ => rfl, fun _ => rfl⟩
  case staa | stab => exact storesAs_of_store8 memory rfl
  case sts | stx | sty => exact storesAs_of_store16 memory rfl
  case std =>
    have stored := storesAs_of_store16 (i := .std o) (w := s.d) memory rfl
    have high : hi s.d = s.a := hi_join s.a s.b
    have low : lo s.d = s.b := lo_join s.a s.b
    rwa [high, low] at stored

/-- Settles O28: the two push shapes; a pull is a read above SP, and then its register. -/
theorem pushPullResult : Obligations.PushPullResult := by
  refine ⟨fun s memory => ⟨?psha, ?pshb, ?pshx, ?pshy⟩,
    fun s => ⟨readByte_onlyReads _ s, ?wordRead, ?pula, ?pulb, ?pulx, ?puly⟩,
    rfl, rfl, rfl, rfl, rfl, rfl, rfl, rfl⟩
  case psha | pshb => exact storesAs_of_push8 memory rfl
  case pshx | pshy => exact storesAs_of_push16 memory rfl
  case wordRead =>
    have read := readWord_onlyReads (s.sp + 1#16) s
    rwa [BitVec.add_assoc] at read
  case pula => exact congrArg (fun p => Host.Outcome.next (p.2.setA p.1)) (pull8_eq s)
  case pulb => exact congrArg (fun p => Host.Outcome.next (p.2.setB p.1)) (pull8_eq s)
  case pulx => exact congrArg (fun p => Host.Outcome.next (p.2.setIX p.1)) (pull16_eq s)
  case puly => exact congrArg (fun p => Host.Outcome.next (p.2.setIY p.1)) (pull16_eq s)

/-! ### Transfers between registers -/

/-- Settles O29: the flags of the byte copied; an exchange is the model's updates. -/
theorem registerTransferResult : Obligations.RegisterTransferResult := by
  refine ⟨fun s => ⟨?tab, ?tba, rfl, rfl⟩, rfl, rfl, rfl, rfl⟩
  case tab => exact congrArg (fun f => Host.Outcome.next ((s.setB s.a).setCcr f)) (logic8_eq_of_sign s.a s.ccr)
  case tba => exact congrArg (fun f => Host.Outcome.next ((s.setA s.b).setCcr f)) (logic8_eq_of_sign s.b s.ccr)

/-- R27: the flags are the bits of CCR, C the last. -/
theorem toByte_eq_concat (f : Ccr) :
    f.toByte = ((((((((0#0).concat f.s).concat f.x).concat f.h).concat f.i).concat f.n).concat f.z).concat
      f.v).concat f.c := by
  rw [← BitVec.setWidth_eq (BitVec.concat _ f.c), ← BitVec.ofNat_toNat, Ccr.toByte]
  congr 1
  simp only [BitVec.toNat_concat, bitNat_eq_toNat, BitVec.toNat_ofNat]
  omega

/-- R27: the place of each flag. -/
theorem getLsbD_toByte (f : Ccr) :
    f.toByte.getLsbD 7 = f.s ∧ f.toByte.getLsbD 6 = f.x ∧ f.toByte.getLsbD 5 = f.h ∧ f.toByte.getLsbD 4 = f.i ∧
      f.toByte.getLsbD 3 = f.n ∧ f.toByte.getLsbD 2 = f.z ∧ f.toByte.getLsbD 1 = f.v ∧ f.toByte.getLsbD 0 = f.c := by
  simp only [toByte_eq_concat, BitVec.getLsbD_concat_succ, BitVec.getLsbD_concat_zero, and_self]

/-- Settles O30: the places of the flags in the byte; TAP is the model's update. -/
theorem ccrTransferResult : Obligations.CcrTransferResult := by
  refine ⟨fun s => ⟨⟨s.ccr.toByte, rfl, ?places⟩, rfl⟩, rfl, rfl⟩
  case places => exact getLsbD_toByte s.ccr

end Sys2Proof.Proofs
end

section
/-! Proofs. The branches after a compare (46_branch_jump.md R370 to R385, the summary table): Z, C, and N xor V of a
difference are the equality and the two orders of its operands, and each branch tests one of them, or its negation. -/

namespace Sys2Proof.Proofs

open Sys2Proof.Machine

section Compare

variable (a m : Byte) (f : Ccr)

/-! ### The flags of a compare as equality and orders -/

theorem subFlags8_z_iff : (subFlags8 a m false f).z = true ↔ a = m := by
  rw [subFlags8_eq, decide_eq_true_iff, Bool.toNat_false, BitVec.sub_zero, BitVec.sub_eq_iff_eq_add, BitVec.zero_add]

theorem subFlags8_c_iff : (subFlags8 a m false f).c = true ↔ a.toNat < m.toNat := by
  rw [subFlags8_eq, decide_eq_true_iff, Bool.toNat_false, Nat.add_zero]

/-- The difference has the wrong sign exactly when it overflows, so N xor V is the sign of the exact difference. -/
theorem subFlags8_n_xor_v_iff :
    ((subFlags8 a m false f).n ^^ (subFlags8 a m false f).v) = true ↔ a.toInt < m.toInt := by
  have lowA := a.le_toInt
  have highA := a.toInt_lt
  have lowM := m.le_toInt
  have highM := m.toInt_lt
  have difference := toInt_diff8 a m false
  rw [Bool.toNat_false, Int.natCast_zero, Int.sub_zero, bmod_two_pow_succ_eq_ite (by omega) (by omega)] at difference
  rw [subFlags8_eq, ← diff8_eq_sub, bne_iff_ne, ne_eq, decide_eq_decide, Bool.toNat_false]
  omega

/-! ### The branch conditions after a compare -/

theorem condLs_subFlags8_iff : condLs (subFlags8 a m false f) = true ↔ a.toNat ≤ m.toNat := by
  rw [condLs, Bool.or_eq_true, subFlags8_c_iff, subFlags8_z_iff, ← BitVec.toNat_inj, Nat.le_iff_lt_or_eq]

theorem condLe_subFlags8_iff : condLe (subFlags8 a m false f) = true ↔ a.toInt ≤ m.toInt := by
  rw [condLe, Bool.or_eq_true, subFlags8_n_xor_v_iff, subFlags8_z_iff, ← BitVec.toInt_inj, Int.le_iff_eq_or_lt]

end Compare

/-- BNE, BHI, BHS, BGT and BGE each test the complement of another branch's condition. -/
theorem not_eq_true_iff_not {condition : Bool} {P : Prop} (holds : condition = true ↔ P) :
    (!condition) = true ↔ ¬P := by
  rw [Bool.not_eq_true', ← Bool.not_eq_true, holds]

/-- Settles O33: CMPA leaves the flags of the difference, in which five branches test equality and the two orders, and
the other five their complements. -/
theorem branchAfterCompare : Obligations.BranchAfterCompare := by
  intro s m rr
  have equal := subFlags8_z_iff s.a m s.ccr
  have lower := subFlags8_c_iff s.a m s.ccr
  have lowerOrSame := condLs_subFlags8_iff s.a m s.ccr
  have less := subFlags8_n_xor_v_iff s.a m s.ccr
  have lessOrEqual := condLe_subFlags8_iff s.a m s.ccr
  refine ⟨s.setCcr (subFlags8 s.a m false s.ccr), rfl, ?beq, ?bne, ?bhi, ?bhs, ?blo, ?bls, ?bgt, ?bge, ?blt, ?ble⟩
  case beq => exact exec_branch_eq_ite rfl equal
  case bne => exact exec_branch_eq_ite rfl (not_eq_true_iff_not equal)
  case bhi => exact exec_branch_eq_ite rfl ((not_eq_true_iff_not lowerOrSame).trans Nat.not_le)
  case bhs => exact exec_branch_eq_ite rfl ((not_eq_true_iff_not lower).trans Nat.not_lt)
  case blo => exact exec_branch_eq_ite rfl lower
  case bls => exact exec_branch_eq_ite rfl lowerOrSame
  case bgt => exact exec_branch_eq_ite rfl ((not_eq_true_iff_not lessOrEqual).trans Int.not_le)
  case bge => exact exec_branch_eq_ite rfl ((not_eq_true_iff_not less).trans Int.not_lt)
  case blt => exact exec_branch_eq_ite rfl less
  case ble => exact exec_branch_eq_ite rfl lessOrEqual

end Sys2Proof.Proofs
end

section
/-! Proofs. The unsigned and signed branches, the branches on the bits of a memory byte, jumps and subroutines
(46_branch_jump.md R378 to R387, R390 to R393; 00_scope.md R6): each branch condition in words, a call as the two bytes
of its return address, and what a word pull finds after a word push. -/

namespace Sys2Proof.Proofs

open Sys2Proof.Machine

/-! ### The conditions on the flags -/

theorem condHi_iff (f : Ccr) : condHi f = true ↔ f.c = false ∧ f.z = false := by
  rw [condHi, Bool.not_eq_true', Bool.or_eq_false_iff]

theorem condLs_iff (f : Ccr) : condLs f = true ↔ f.c = true ∨ f.z = true := by
  rw [condLs, Bool.or_eq_true]

theorem condLt_iff (f : Ccr) : condLt f = true ↔ f.n ≠ f.v := bne_iff_ne

theorem condGe_iff (f : Ccr) : condGe f = true ↔ f.n = f.v :=
  (not_eq_true_iff_not (condLt_iff f)).trans Decidable.not_not

theorem condLe_iff (f : Ccr) : condLe f = true ↔ f.z = true ∨ f.n ≠ f.v :=
  Bool.or_eq_true_iff.trans (or_congr_right (condLt_iff f))

theorem condGt_iff (f : Ccr) : condGt f = true ↔ f.z = false ∧ f.n = f.v := by
  rw [condGt, Bool.not_eq_true', Bool.or_eq_false_iff, bne_eq_false_iff_eq]

/-- Settles O32: BHS and BLO test C as BCC and BCS do, the other six test two or three flags. -/
theorem compoundBranchResult : Obligations.CompoundBranchResult := by
  refine ⟨fun s rr => ⟨?bhi, ?bls, ?bhs, ?blo, ?bge, ?blt, ?bgt, ?ble⟩,
    fun _ => ⟨rfl, rfl, rfl, rfl, rfl, rfl, rfl, rfl⟩⟩
  case bhi => exact exec_branch_eq_ite rfl (condHi_iff s.ccr)
  case bls => exact exec_branch_eq_ite rfl (condLs_iff s.ccr)
  case bhs => exact exec_branch_eq_ite rfl (iff_of_eq (Bool.not_eq_true' _))
  case blo => exact exec_branch_eq_ite rfl Iff.rfl
  case bge => exact exec_branch_eq_ite rfl (condGe_iff s.ccr)
  case blt => exact exec_branch_eq_ite rfl (condLt_iff s.ccr)
  case bgt => exact exec_branch_eq_ite rfl (condGt_iff s.ccr)
  case ble => exact exec_branch_eq_ite rfl (condLe_iff s.ccr)

/-! ### The conditions on a memory byte -/

/-- R386: nothing is left of the byte under the mask exactly when each selected bit is 0. -/
theorem and_mask_eq_zero_iff (m mask : Byte) :
    m &&& mask = 0#8 ↔ ∀ k : Fin 8, mask.getLsbD k = true → m.getLsbD k = false := by
  constructor
  · intro masked k selected
    have bit : (m &&& mask).getLsbD k = false := by rw [masked, BitVec.getLsbD_zero]
    rwa [BitVec.getLsbD_and, selected, Bool.and_true] at bit
  · intro clear
    refine BitVec.eq_of_getLsbD_eq fun k bound => ?_
    rw [BitVec.getLsbD_and, BitVec.getLsbD_zero]
    cases selected : mask.getLsbD k with
    | false => exact Bool.and_false _
    | true => rw [clear ⟨k, bound⟩ selected, Bool.false_and]

/-- R387: the complement's selected bits are all 0 exactly when the byte's are all 1. -/
theorem not_and_mask_eq_zero_iff (m mask : Byte) :
    ~~~m &&& mask = 0#8 ↔ ∀ k : Fin 8, mask.getLsbD k = true → m.getLsbD k = true := by
  have complement (k : Fin 8) : (~~~m).getLsbD k = false ↔ m.getLsbD k = true := by
    rw [BitVec.getLsbD_not, decide_eq_true k.isLt, Bool.true_and, Bool.not_eq_false']
  simp only [and_mask_eq_zero_iff, complement]

/-- The read leaves PC alone, so the target is counted from the PC of the state before. -/
theorem branchOnBits_eq_ite {test : Byte → Bool} {o : BitAddr} {rr : Byte} {s : State} {P : Prop} [Decidable P]
    (condition : test (readByte (ea (bitAddr o) s) s).1 = true ↔ P) :
    branchOnBits test o rr s =
      if P then { (readByte (ea (bitAddr o) s) s).2 with pc := BitVec.ofInt 16 (s.pc.toNat + rr.toInt) }
      else (readByte (ea (bitAddr o) s) s).2 := by
  rw [branchOnBits, branchIf_eq_ite condition, readByte_pc]

/-- Settles O34: one read, and then a branch under the condition on the byte read. -/
theorem bitBranchResult : Obligations.BitBranchResult := by
  refine ⟨fun s o mm rr => ⟨readByte_onlyReads _ s, ?brclr, ?brset⟩, fun _ _ _ => rfl, fun _ _ _ => rfl⟩
  case brclr =>
    exact congrArg Host.Outcome.next (branchOnBits_eq_ite (decide_eq_true_iff.trans (and_mask_eq_zero_iff _ mm)))
  case brset =>
    exact congrArg Host.Outcome.next (branchOnBits_eq_ite (decide_eq_true_iff.trans (not_and_mask_eq_zero_iff _ mm)))

/-! ### Calls and returns -/

/-- Writes commute with a change of PC. -/
theorem writeAll_setPC (l : List (Word × Byte)) (s : State) (w : Word) :
    writeAll l (s.setPC w) = (writeAll l s).setPC w := by
  have moved : writeAll l (s.setPC w) = (writeAll l s).withRegisters (s.setPC w) :=
    writeAll_withRegisters l s (s.setPC w)
  rw [moved, (writeAll_onlyAccess l s).fields]
  rfl

/-- R390, R392: a call stores the return address, low byte first, and goes to its target. -/
theorem storesAs_of_call {i : Instr} {s : State} {target : Word} (memory : s.mem.wf = true)
    (meaning : exec i s = .next ((push16 s.pc s).setPC target)) :
    StoresAs i [(s.sp, lo s.pc), (s.sp - 1#16, hi s.pc)] s { s with sp := s.sp - 2#16, pc := target } := by
  refine storesAs_of_writeAll memory (pushed_word_nodup s.sp) (meaning.trans ?_)
  rw [push16_eq, ← writeAll_setPC]
  rfl

/-- R393: a return is a word read above SP, which moves up by two. -/
theorem exec_rts_eq (s : State) :
    exec .rts s =
      .next { (readWord (s.sp + 1#16) s).2 with pc := (readWord (s.sp + 1#16) s).1, sp := s.sp + 2#16 } :=
  congrArg (fun p : Word × State => Host.Outcome.next (p.2.setPC p.1)) (pull16_eq s)

/-- Settles O35: BSR and JSR are one call to two targets; RTS is its word read. -/
theorem jumpAndSubroutineResult : Obligations.JumpAndSubroutineResult := by
  refine ⟨fun s rr o memory => ⟨?bsr, ?jsr⟩, fun _ _ => rfl, fun s => ⟨?wordRead, exec_rts_eq s⟩,
    fun _ => rfl, fun _ => rfl, fun _ => rfl, rfl⟩
  case bsr =>
    rw [← add_sext16_eq_ofInt]
    exact storesAs_of_call memory rfl
  case jsr => exact storesAs_of_call memory rfl
  case wordRead =>
    have read := readWord_onlyReads (s.sp + 1#16) s
    rwa [BitVec.add_assoc] at read

/-- R6: a word pushed in RAM stands at the lower of its two addresses, high byte first. -/
theorem wordAt_of_pushed {s t : State} {w : Word} (ram : s.kind s.sp = .ram) (ramBelow : s.kind (s.sp - 1#16) = .ram)
    (stored : Stored [(s.sp, lo w), (s.sp - 1#16, hi w)] s t) : t.mem.wordAt (s.sp - 1#16) = w := by
  have apart : s.sp ≠ s.sp - 1#16 := List.pairwise_pair.1 (pushed_word_nodup s.sp)
  have low : t.mem.byteAt s.sp = lo w := by
    rw [byteAt_of_stored_ram stored ram, storedAt, if_pos rfl]
  have high : t.mem.byteAt (s.sp - 1#16) = hi w := by
    rw [byteAt_of_stored_ram stored ramBelow, storedAt, if_neg apart, storedAt, if_pos rfl]
  rw [Memory.wordAt, BitVec.sub_add_cancel, high, low, join_hi_lo]

/-- From storage a return takes the word standing above SP, and changes PC and SP alone. -/
theorem exec_rts_of_storage {s : State} {a : Word} (above : s.sp + 1#16 = a) (high : Storage s a)
    (low : Storage s (a + 1#16)) : exec .rts s = .next { s with pc := s.mem.wordAt a, sp := s.sp + 2#16 } := by
  rw [exec_rts_eq, above, readWord_storage high low]

/-- With the old PC pushed in RAM, a return goes back to it and to the old SP. -/
theorem exec_rts_of_pushed {s t : State} {target : Word} (ram : s.kind s.sp = .ram)
    (ramBelow : s.kind (s.sp - 1#16) = .ram) (stored : Stored [(s.sp, lo s.pc), (s.sp - 1#16, hi s.pc)] s t)
    (called : t = { s with sp := s.sp - 2#16, pc := target, mem := t.mem }) :
    exec .rts t = .next { s with mem := t.mem } := by
  have sp : t.sp = s.sp - 2#16 := congrArg State.sp called
  have above : t.sp + 1#16 = s.sp - 1#16 := by bv_omega
  have storage {x : Word} (isRam : s.kind x = .ram) : Storage t x :=
    .inl ((State.kind_congr (congrArg State.memMap called) x).trans isRam)
  have low : Storage t (s.sp - 1#16 + 1#16) := storage (by rwa [BitVec.sub_add_cancel])
  rw [exec_rts_of_storage above (storage ramBelow) low, wordAt_of_pushed ram ramBelow stored, sp,
    BitVec.sub_add_cancel, called]

/-- R390, R392, R393: on a stack in RAM a return undoes a call, BSR or JSR. -/
theorem exec_rts_of_call {i : Instr} {s : State} {target : Word} (ram : s.kind s.sp = .ram)
    (ramBelow : s.kind (s.sp - 1#16) = .ram)
    (call : StoresAs i [(s.sp, lo s.pc), (s.sp - 1#16, hi s.pc)] s { s with sp := s.sp - 2#16, pc := target }) :
    ∃ t, exec i s = .next t ∧ exec .rts t = .next { s with mem := t.mem } := by
  obtain ⟨meaning, -, stores⟩ := call
  have noDevice : NoIO s [s.sp, s.sp - 1#16] := .cons (by simp [ram]) (.cons (by simp [ramBelow]) (.nil s))
  exact ⟨_, meaning, exec_rts_of_pushed ram ramBelow (stores noDevice).1 (writeAll_plain noDevice)⟩

/-- Settles O36: a return undoes a call, which JSR is. -/
theorem returnAfterCall : Obligations.ReturnAfterCall :=
  fun _ _ memory ram ramBelow => exec_rts_of_call ram ramBelow (storesAs_of_call memory rfl)

end Sys2Proof.Proofs
end

section
/-! Proofs. The vectors, the trap entry and the return from it, WAI, STOP and TEST (47_interrupt_special.md R400 to
R404; 60_exceptions.md R421, R424, R427, R428): the frame is nine writes and then a read of the vector, the return is
nine reads, and nine reads find what nine writes to RAM have stored. -/

namespace Sys2Proof.Proofs

open Sys2Proof.Machine

/-- Settles O37: both sides are the table's numbers. -/
theorem vectorTable : Obligations.VectorTable := by
  refine ⟨rfl, rfl, rfl, rfl, rfl, rfl, ?lines⟩
  case lines => decide

/-! ### The trap entry -/

/-- R424, R428: the masks as a choice on the kind of trap. -/
theorem trapMasks_eq_ite (k : Trap) (f : Ccr) :
    trapMasks k f = { f with i := true, x := if k = .xirq then true else f.x } := by
  by_cases xirq : k = .xirq <;> simp [trapMasks, xirq]

/-- What stands at an address is the memory map's, which nothing writes. -/
theorem storage_congr {s t : State} {a : Word} (storage : Storage s a) (map : t.memMap = s.memMap) : Storage t a := by
  rwa [Storage, State.kind_congr map]

/-- R424: with its vector in storage, the entry takes PC from the word there and writes the masks, the inhibit and the
run state besides. -/
theorem enterHandler_of_storage {k : Trap} {s : State} (high : Storage s (vector k))
    (low : Storage s (vector k + 1#16)) :
    enterHandler k s = { s with
      pc := s.mem.wordAt (vector k), ccr := trapMasks k s.ccr, irqInhibit := false, runState := .run } := by
  have read := readWord_storage (s := ((s.setCcr (trapMasks k s.ccr)).setIrqInhibit false).setRunState .run) high low
  rw [enterHandler, read]
  rfl

/-- R424: PC is the word at the vector as the stacking has left it. -/
theorem trap_pc_of_storage {k : Trap} {s : State} (ret : Word) (high : Storage s (vector k))
    (low : Storage s (vector k + 1#16)) : (trap k ret s).pc = (trap k ret s).mem.wordAt (vector k) := by
  have map : (pushFrame ret s).memMap = s.memMap := pushFrame_memMap ret s
  rw [trap, enterHandler_of_storage (storage_congr high map) (storage_congr low map)]

/-- Off the devices a trap stores its frame and no other byte: the read of the vector stores nothing. -/
theorem trap_storesOnly {s : State} (memory : s.mem.wf = true) (k : Trap) (ret : Word) :
    StoresOnly ((frameBytes ret s).map Prod.fst ++ [vector k, vector k + 1#16]) (frameBytes ret s) s (trap k ret s) :=
  (pushFrame_storesOnly memory ret).reads (enterHandler_readsUpTo k (pushFrame ret s)) (pushFrame_memMap ret s)

/-- Settles O38: the pushes are the nine writes of the frame, and the entry after them only reads. -/
theorem trapEntry : Obligations.TrapEntry := by
  intro k ret s memory
  refine ⟨congrArg (enterHandler k) (pushFrame_eq ret s), trap_storesOnly memory k ret, ?registers,
    trap_pc_of_storage ret⟩
  case registers =>
    rw [← trapMasks_eq_ite]
    exact trap_onlyAccess k ret s

/-- Settles O39: SWI is the trap entry with PC as the return address. -/
theorem softwareInterrupt : Obligations.SoftwareInterrupt := by
  refine ⟨rfl, fun s memory => ?_⟩
  obtain ⟨-, stores, registers, pc⟩ := trapEntry .swi s.pc s memory
  refine ⟨trap .swi s.pc s, rfl, rfl, stores, registers, fun high low => ?_⟩
  rw [pc high low, wordAt_toNat]
  rfl

/-! ### WAI, STOP and TEST -/

/-- Writes commute with a change of the run state. -/
theorem writeAll_setRunState (l : List (Word × Byte)) (s : State) (r : RunState) :
    writeAll l (s.setRunState r) = (writeAll l s).setRunState r := by
  have moved : writeAll l (s.setRunState r) = (writeAll l s).withRegisters (s.setRunState r) :=
    writeAll_withRegisters l s (s.setRunState r)
  rw [moved, (writeAll_onlyAccess l s).fields]
  rfl

/-- Settles O42: the frame's nine writes, over a state that waits. -/
theorem waitForInterrupt : Obligations.WaitForInterrupt := by
  refine ⟨rfl, fun s memory => storesAs_of_writeAll memory (frameBytes_nodup s.pc s) ?meaning⟩
  case meaning =>
    have stacked := congrArg (State.setRunState · .wait) (pushFrame_eq s.pc s)
    exact congrArg Host.Outcome.next (stacked.trans (writeAll_setRunState _ _ _).symm)

/-- R427: the illegal-opcode trap stacks one of the two addresses that the open parameter allows. -/
theorem raiseIllegalOpcode_eq_trap (a : Word) (s : State) :
    ∃ ret, (ret = a ∨ ret = s.pc) ∧ raiseIllegalOpcode a s = trap .illegalOpcode ret s := by
  unfold raiseIllegalOpcode
  cases Config.illopStackedPc with
  | first => exact ⟨a, .inl rfl, rfl⟩
  | next => exact ⟨s.pc, .inr rfl, rfl⟩

theorem exec_stop_eq (s : State) :
    exec .stop s = .next (if s.ccr.s then s else { s with runState := .stop, xirqHeld := s.pending.xirq }) := rfl

theorem exec_test_eq (s : State) :
    exec .test s =
      .next (if s.testMode then { s with runState := .testHang } else raiseIllegalOpcode (s.pc - 1#16) s) := rfl

/-- Settles O43: each instruction is a choice on one bit, S or the test mode. -/
theorem stopAndTest : Obligations.StopAndTest := by
  refine ⟨rfl, rfl, fun s => ⟨fun disabled => ?_, fun enabled => ?_, fun mode => ?_, fun noMode => ?_⟩⟩
  · rw [exec_stop_eq, if_pos disabled]
  · rw [exec_stop_eq, if_neg (Bool.eq_false_iff.1 enabled)]
  · rw [exec_test_eq, if_pos mode]
  · obtain ⟨ret, stacked, raised⟩ := raiseIllegalOpcode_eq_trap (s.pc - 1#16) s
    exact ⟨ret, stacked, by rw [exec_test_eq, if_neg (Bool.eq_false_iff.1 noMode), raised]⟩

/-! ### The return from a trap -/

theorem readRun_zero_iff {a : Word} {s t : State} : readRun 0 a s = ([], t) ↔ s = t := by
  simp [readRun]

theorem readRun_succ_iff {n : Nat} {a : Word} {s t : State} {b : Byte} {bs : List Byte} :
    readRun (n + 1) a s = (b :: bs, t) ↔ ∃ u, readByte a s = (b, u) ∧ readRun n (a + 1#16) u = (bs, t) := by
  simp only [readRun, Prod.ext_iff, List.cons.injEq]
  constructor
  · rintro ⟨⟨first, rest⟩, last⟩
    exact ⟨_, ⟨first, rfl⟩, rest, last⟩
  · rintro ⟨u, ⟨first, rfl⟩, rest, last⟩
    exact ⟨⟨first, rest⟩, last⟩

theorem readRun_onlyReads (n : Nat) (a : Word) (s : State) : OnlyReads (addressRun n a) s (readRun n a s).2 := by
  induction n generalizing a s with
  | zero => exact .refl [] s
  | succ n ih => exact (readByte_onlyReads a s).trans (ih (a + 1#16) (readByte a s).2)

/-- A run of reads over storage answers the bytes standing there and changes nothing. -/
theorem readRun_of_codeAt {s : State} {a : Word} {bs : List Byte} (code : CodeAt s a bs) :
    readRun bs.length a s = (bs, s) := by
  induction bs generalizing a with
  | nil => rfl
  | cons b rest ih =>
    obtain ⟨storage, byte, more⟩ := code
    exact readRun_succ_iff.2 ⟨s, by rw [readByte_storage storage, byte], ih more⟩

/-! A run of reads does not look at the registers, so its states may stand under the registers `r` of a return that is
under way: an update of a register is one of `r`. -/

@[simp] theorem withRegisters_setA (t r : State) (v : Byte) : (t.withRegisters r).setA v = t.withRegisters (r.setA v) :=
  rfl
@[simp] theorem withRegisters_setB (t r : State) (v : Byte) : (t.withRegisters r).setB v = t.withRegisters (r.setB v) :=
  rfl
@[simp] theorem withRegisters_setIX (t r : State) (v : Word) :
    (t.withRegisters r).setIX v = t.withRegisters (r.setIX v) := rfl
@[simp] theorem withRegisters_setIY (t r : State) (v : Word) :
    (t.withRegisters r).setIY v = t.withRegisters (r.setIY v) := rfl
@[simp] theorem withRegisters_setPC (t r : State) (v : Word) :
    (t.withRegisters r).setPC v = t.withRegisters (r.setPC v) := rfl
@[simp] theorem withRegisters_setCcr (t r : State) (f : Ccr) :
    (t.withRegisters r).setCcr f = t.withRegisters (r.setCcr f) := rfl
@[simp] theorem withRegisters_ccr (t r : State) : (t.withRegisters r).ccr = r.ccr := rfl

/-- A pull is the read above SP; the registers ride along, and SP moves up. -/
theorem pull8_withRegisters (t r : State) :
    pull8 (t.withRegisters r) =
      ((readByte (r.sp + 1#16) t).1, (readByte (r.sp + 1#16) t).2.withRegisters (r.setSP (r.sp + 1#16))) :=
  readByte_withRegisters (r.sp + 1#16) t (r.setSP (r.sp + 1#16))

/-- R400: the registers that nine bytes read above SP make. -/
theorem returnFromTrap_withRegisters {s t r : State} {c b a xh xl yh yl ph pl : Byte}
    (run : readRun 9 (r.sp + 1#16) s = ([c, b, a, xh, xl, yh, yl, ph, pl], t)) :
    returnFromTrap (s.withRegisters r) = t.withRegisters { r with
      a := a, b := b, ix := xh ++ xl, iy := yh ++ yl, pc := ph ++ pl, sp := r.sp + 9#16, ccr := r.ccr.load c } := by
  simp only [readRun_succ_iff, readRun_zero_iff] at run
  obtain ⟨s1, r1, s2, r2, s3, r3, s4, r4, s5, r5, s6, r6, s7, r7, s8, r8, s9, r9, rfl⟩ := run
  simp only [returnFromTrap, pull16, pull8_withRegisters, withRegisters_setA, withRegisters_setB, withRegisters_setIX,
    withRegisters_setIY, withRegisters_setPC, withRegisters_setCcr, withRegisters_ccr, State.setSP_sp, State.setSP_ccr,
    State.setCcr_sp, State.setA_sp, State.setB_sp, State.setIX_sp, State.setIY_sp, r1, r2, r3, r4, r5, r6, r7, r8, r9]
  have nine : r.sp + 1#16 + 1#16 + 1#16 + 1#16 + 1#16 + 1#16 + 1#16 + 1#16 + 1#16 = r.sp + 9#16 := by
    simp only [BitVec.add_assoc, BitVec.reduceAdd]
  rw [nine]
  rfl

/-- R400: the return in the terms of the state that its nine reads leave. -/
theorem returnFromTrap_of_readRun {s t : State} {c b a xh xl yh yl ph pl : Byte}
    (run : readRun 9 (s.sp + 1#16) s = ([c, b, a, xh, xl, yh, yl, ph, pl], t)) :
    returnFromTrap s = { t with
      a := a, b := b, ix := xh ++ xl, iy := yh ++ yl, pc := ph ++ pl, sp := s.sp + 9#16, ccr := s.ccr.load c } := by
  have reads := (readRun_onlyReads 9 (s.sp + 1#16) s).access.fields
  rw [run] at reads
  dsimp only at reads
  have returned : returnFromTrap s = _ := returnFromTrap_withRegisters (r := s) run
  rw [returned, reads]
  rfl

/-- Settles O40: RTI is nine reads and the registers they make. -/
theorem returnFromInterrupt : Obligations.ReturnFromInterrupt := by
  refine ⟨rfl, fun s t c b a xh xl yh yl ph pl run => ⟨?reads, ?meaning⟩⟩
  case reads =>
    have reads := readRun_onlyReads 9 (s.sp + 1#16) s
    rwa [run] at reads
  case meaning => exact congrArg Host.Outcome.next (returnFromTrap_of_readRun run)

/-! ### The return undoes the trap -/

/-- A byte stored at one of several different addresses stands there. -/
theorem storedAt_of_mem {l : List (Word × Byte)} {e : Word × Byte} (apart : (l.map Prod.fst).Nodup) (mem : e ∈ l)
    (old : Byte) : storedAt l e.1 old = e.2 := by
  induction l with
  | nil => cases mem
  | cons first rest ih =>
    obtain ⟨new, apart⟩ := List.nodup_cons.1 apart
    rw [storedAt]
    rcases List.mem_cons.1 mem with rfl | later
    · rw [if_pos rfl]
    · have other : first.1 ≠ e.1 := fun same => new (same ▸ List.mem_map_of_mem later)
      rw [if_neg other, ih apart later]

/-- Code stands where each of its bytes stands at its address. -/
theorem codeAt_iff_forall_zip {s : State} {a : Word} {bs : List Byte} :
    CodeAt s a bs ↔
      ∀ e ∈ (addressRun bs.length a).zip bs, Storage s e.1 ∧ s.mem.byteAt e.1 = e.2 := by
  induction bs generalizing a with
  | nil => simp [CodeAt]
  | cons b rest ih =>
    simp only [CodeAt, ih, List.length_cons, addressRun, List.zip_cons_cons, List.forall_mem_cons, and_assoc]

/-- R400: the bytes of a frame in the order of the reads, which is upwards. -/
def frameCode (ret : Word) (s : State) : List Byte :=
  [s.ccr.toByte, s.b, s.a, hi s.ix, lo s.ix, hi s.iy, lo s.iy, hi ret, lo ret]

/-- The reads go through the frame from its last write back to its first. -/
theorem zip_frameCode (ret : Word) (s : State) :
    (addressRun (frameCode ret s).length (s.sp - 9#16 + 1#16)).zip (frameCode ret s) = (frameBytes ret s).reverse := by
  simp [frameCode, frameBytes, addressRun, BitVec.sub_eq_add_neg, BitVec.add_assoc]

/-- A frame stored in RAM stands there. -/
theorem codeAt_of_frameBytes_stored {ret : Word} {s t : State}
    (ram : ∀ e ∈ frameBytes ret s, s.kind e.1 = .ram) (stored : Stored (frameBytes ret s) s t)
    (map : t.memMap = s.memMap) : CodeAt t (s.sp - 9#16 + 1#16) (frameCode ret s) := by
  rw [codeAt_iff_forall_zip, zip_frameCode]
  intro e mem
  have frame : e ∈ frameBytes ret s := List.mem_reverse.1 mem
  refine ⟨storage_congr (.inl (ram e frame)) map, ?_⟩
  rw [byteAt_of_stored_ram stored (ram e frame), storedAt_of_mem (frameBytes_nodup ret s) frame]

/-- R400: the registers that a return makes of a frame stored in RAM. -/
theorem returnFromTrap_of_frameBytes_stored {ret : Word} {s t : State}
    (ram : ∀ e ∈ frameBytes ret s, s.kind e.1 = .ram) (stored : Stored (frameBytes ret s) s t)
    (map : t.memMap = s.memMap) (sp : t.sp = s.sp - 9#16) :
    returnFromTrap t = { t with
      a := s.a, b := s.b, ix := s.ix, iy := s.iy, sp := s.sp, pc := ret, ccr := t.ccr.load s.ccr.toByte } := by
  have code := codeAt_of_frameBytes_stored ram stored map
  have run : readRun 9 (t.sp + 1#16) t = (frameCode ret s, t) := by rw [sp]; exact readRun_of_codeAt code
  have joined (w : Word) : hi w ++ lo w = w := join_hi_lo w
  rw [returnFromTrap_of_readRun run, joined, joined, joined, sp, BitVec.sub_add_cancel]

/-- R34, R400: with the stacked CCR a return takes back the masks of the trap, X included. -/
theorem load_toByte_trapMasks (k : Trap) (f : Ccr) : (trapMasks k f).load f.toByte = f := by
  obtain ⟨s, x, h, i, n, z, v, c⟩ := getLsbD_toByte f
  refine Ccr.ext s ?mask h i n z v c
  case mask =>
    simp only [Ccr.load, trapMasks, x]
    cases f.x with
    | false => exact Bool.and_false _
    | true => rfl

theorem frameBytes_ram {s : State} (ram : ∀ n < 9, s.kind (s.sp - BitVec.ofNat 16 n) = .ram) (ret : Word) :
    ∀ e ∈ frameBytes ret s, s.kind e.1 = .ram := by
  have top : s.kind s.sp = .ram := by simpa using ram 0 (by decide)
  simp only [frameBytes, List.forall_mem_cons, List.not_mem_nil, false_imp_iff, implies_true, and_true]
  exact ⟨top, ram 1 (by decide), ram 2 (by decide), ram 3 (by decide), ram 4 (by decide), ram 5 (by decide),
    ram 6 (by decide), ram 7 (by decide), ram 8 (by decide)⟩

/-- Settles O41: the trap stores its frame, the return reads it, and the masks come back with the stacked CCR. -/
theorem returnUndoesTrap : Obligations.ReturnUndoesTrap := by
  intro k ret pc s memory stack vectorPlain
  have ram := frameBytes_ram stack ret
  have framePlain : NoIO s ((frameBytes ret s).map Prod.fst) :=
    List.forall_mem_map.2 fun e mem => by simp [ram e mem]
  obtain ⟨stored, -⟩ := trap_storesOnly memory k ret (List.forall_mem_append.2 ⟨framePlain, vectorPlain⟩)
  have map : (trap k ret s).memMap = s.memMap := by simp [trap]
  have sp : (trap k ret s).sp = s.sp - 9#16 := by simp [trap]
  have flags : (trap k ret s).ccr.load s.ccr.toByte = s.ccr := by rw [trap_ccr, load_toByte_trapMasks]
  generalize trap k ret s = t at stored map sp flags ⊢
  have returned := returnFromTrap_of_frameBytes_stored (t := { t with pc := pc }) ram stored map sp
  exact ⟨_, congrArg Host.Outcome.next returned, rfl, rfl, rfl, rfl, rfl, flags, rfl⟩

end Sys2Proof.Proofs
end

section
/-! Proofs. What a boundary chooses and what the resets do (60_exceptions.md R423, R425, R428, R437, R439;
47_interrupt_special.md R402, R403; 70_reset_and_hazards.md R460, R466; 92_eei_decisions.md D15): when each request is
let through, the choice for each run state, and from these the steps in RUN, WAIT, STOP and TESTHANG. -/

namespace Sys2Proof.Proofs

open Sys2Proof.Machine

/-! ### Which requests are let through -/

theorem xirqTaken_iff {s : State} : xirqTaken s = true ↔ s.pending.xirq = true ∧ s.ccr.x = false := by
  simp [xirqTaken]

theorem xirqTaken_eq_false_iff {s : State} : xirqTaken s = false ↔ s.pending.xirq = false ∨ s.ccr.x = true := by
  simp only [xirqTaken, Bool.and_eq_false_iff, Bool.not_eq_false']

theorem xirqEdge_iff {s : State} : xirqEdge s = true ↔ s.pending.xirq = true ∧ s.xirqHeld = false := by
  simp [xirqEdge]

theorem irqPinTaken_iff {s : State} :
    irqPinTaken s = true ↔ s.ccr.i = false ∧ .irq ∈ s.irqLines ∧ .irq ∈ s.pending.irqs := by
  simp [irqPinTaken, and_assoc]

theorem xirqEdge_eq_false_iff {s : State} : xirqEdge s = false ↔ s.pending.xirq = false ∨ s.xirqHeld = true := by
  simp only [xirqEdge, Bool.and_eq_false_iff, Bool.not_eq_false']

theorem irqPinTaken_eq_false_iff {s : State} :
    irqPinTaken s = false ↔ s.ccr.i = true ∨ .irq ∉ s.irqLines ∨ .irq ∉ s.pending.irqs := by
  simp only [irqPinTaken, Bool.and_eq_false_iff, Bool.not_eq_false', decide_eq_false_iff_not, or_assoc]

/-- R425: of the lines pending, the first in the platform's order. -/
theorem irqTaken_eq_some {s : State} {l : IrqLine} {before after : List IrqLine} (unmasked : s.ccr.i = false)
    (order : s.irqLines = before ++ l :: after) (asks : l ∈ s.pending.irqs)
    (first : ∀ e ∈ before, e ∉ s.pending.irqs) : irqTaken s = some l := by
  rw [irqTaken, if_neg (by simp [unmasked]), List.find?_eq_some_iff_append]
  exact ⟨by simpa using asks, before, after, order, by simpa using first⟩

theorem irqTaken_eq_none_iff {s : State} :
    irqTaken s = none ↔ s.ccr.i = true ∨ ∀ l ∈ s.irqLines, l ∉ s.pending.irqs := by
  cases masked : s.ccr.i <;> simp [irqTaken, masked]

theorem exists_irqTaken {s : State} {l : IrqLine} (unmasked : s.ccr.i = false) (line : l ∈ s.irqLines)
    (asks : l ∈ s.pending.irqs) : ∃ e, irqTaken s = some e := by
  rw [← Option.ne_none_iff_exists', ne_eq, irqTaken_eq_none_iff]
  rintro (masked | none)
  · exact Bool.eq_false_iff.1 unmasked masked
  · exact none l line asks

/-! ### The choice in each run state -/

section Choice

variable {s : State}

theorem nextEvent_of_requestedReset {k : ResetKind} (requested : requestedReset s.resets = some k) :
    nextEvent s = .reset k := by
  simp only [nextEvent, requested]

/-! In RUN, in the order of R423. -/

theorem nextEvent_run_xirq (run : s.runState = .run) (noReset : requestedReset s.resets = none)
    (xirq : xirqTaken s = true) : nextEvent s = .trap .xirq := by
  simp only [nextEvent, noReset, run, xirq, if_true]

theorem nextEvent_run_inhibited (run : s.runState = .run) (noReset : requestedReset s.resets = none)
    (noXirq : xirqTaken s = false) (inhibit : s.irqInhibit = true) : nextEvent s = .execute := by
  simp [nextEvent, noReset, run, noXirq, inhibit]

theorem nextEvent_run_irq {l : IrqLine} (run : s.runState = .run) (noReset : requestedReset s.resets = none)
    (noXirq : xirqTaken s = false) (noInhibit : s.irqInhibit = false) (irq : irqTaken s = some l) :
    nextEvent s = .trap (.irq l) := by
  simp [nextEvent, noReset, run, noXirq, noInhibit, irq]

theorem nextEvent_run_execute (run : s.runState = .run) (noReset : requestedReset s.resets = none)
    (noXirq : xirqTaken s = false) (noIrq : irqTaken s = none) : nextEvent s = .execute := by
  simp [nextEvent, noReset, run, noXirq, noIrq]

/-! In WAIT, in the order of R437. -/

theorem nextEvent_wait_xirq (wait : s.runState = .wait) (noReset : requestedReset s.resets = none)
    (xirq : xirqTaken s = true) : nextEvent s = .wake .xirq := by
  simp only [nextEvent, noReset, wait, xirq, if_true]

theorem nextEvent_wait_irq {l : IrqLine} (wait : s.runState = .wait) (noReset : requestedReset s.resets = none)
    (noXirq : xirqTaken s = false) (irq : irqTaken s = some l) : nextEvent s = .wake (.irq l) := by
  simp [nextEvent, noReset, wait, noXirq, irq]

theorem nextEvent_wait_idle (wait : s.runState = .wait) (noReset : requestedReset s.resets = none)
    (noXirq : xirqTaken s = false) (noIrq : irqTaken s = none) : nextEvent s = .idle := by
  simp [nextEvent, noReset, wait, noXirq, noIrq]

/-! In STOP, in the order of R403 and R437. -/

theorem nextEvent_stop_xirq (stop : s.runState = .stop) (noReset : requestedReset s.resets = none)
    (xirq : xirqTaken s = true) : nextEvent s = .trap .xirq := by
  simp only [nextEvent, noReset, stop, xirq, if_true]

theorem nextEvent_stop_edge (stop : s.runState = .stop) (noReset : requestedReset s.resets = none)
    (noXirq : xirqTaken s = false) (edge : xirqEdge s = true) : nextEvent s = .resume := by
  simp [nextEvent, noReset, stop, noXirq, edge]

theorem nextEvent_stop_irqPin (stop : s.runState = .stop) (noReset : requestedReset s.resets = none)
    (noXirq : xirqTaken s = false) (noEdge : xirqEdge s = false) (pin : irqPinTaken s = true) :
    nextEvent s = .trap (.irq .irq) := by
  simp [nextEvent, noReset, stop, noXirq, noEdge, pin]

theorem nextEvent_stop_idle (stop : s.runState = .stop) (noReset : requestedReset s.resets = none)
    (noXirq : xirqTaken s = false) (noEdge : xirqEdge s = false) (noPin : irqPinTaken s = false) :
    nextEvent s = .idle := by
  simp [nextEvent, noReset, stop, noXirq, noEdge, noPin]

/-- R404. -/
theorem nextEvent_testHang (hang : s.runState = .testHang) (noReset : requestedReset s.resets = none) :
    nextEvent s = .idle := by
  simp only [nextEvent, noReset, hang]

theorem step_of_nextEvent {e : Event} (event : nextEvent s = e) : step s = perform e s := by rw [step, event]

end Choice

/-! ### Resets -/

/-- Outside STOP a look at XIRQ records nothing. -/
theorem watchXirq_of_not_stop {s : State} (notStop : s.runState ≠ .stop) : watchXirq s = s := by
  rw [watchXirq, if_neg notStop]

/-- Settles O50: the order of the requests, before any look at the run state. -/
theorem resetTaken : Obligations.ResetTaken := by
  intro s
  have taken {k : ResetKind} (requested : requestedReset s.resets = some k) : step s = .next (takeReset k s) :=
    step_of_nextEvent (nextEvent_of_requestedReset requested)
  refine ⟨fun pin => taken ?_, fun noPin monitor => taken ?_, fun noPin noMonitor cop => taken ?_,
    fun hang noPin noMonitor noCop => ?_⟩
  · simp [requestedReset, pin]
  · simp [requestedReset, noPin, monitor]
  · simp [requestedReset, noPin, noMonitor, cop]
  · have noReset : requestedReset s.resets = none := by simp [requestedReset, noPin, noMonitor, noCop]
    rw [step_of_nextEvent (nextEvent_testHang hang noReset), perform, watchXirq_of_not_stop (by simp [hang])]

/-- The state in which a reset reads its vector (70_reset_and_hazards.md R460). -/
def resetEntry (k : ResetKind) (s : State) : State :=
  (((drawRegisters s).setRunState .run).setIrqInhibit false).setResets (servedReset s.resets k)

theorem takeReset_eq (k : ResetKind) (s : State) :
    takeReset k s =
      { (readWord (resetVector k) (resetEntry k s)).2 with pc := (readWord (resetVector k) (resetEntry k s)).1 } := rfl

/-- R460: the masks are set before the vector is read, and the read leaves them. -/
theorem takeReset_ccr (k : ResetKind) (s : State) : (takeReset k s).ccr = (drawRegisters s).ccr :=
  readWord_ccr (resetVector k) (resetEntry k s)

theorem takeReset_pc_of_storage {k : ResetKind} {s : State} (high : Storage s (resetVector k))
    (low : Storage s (resetVector k + 1#16)) : (takeReset k s).pc = s.mem.wordAt (resetVector k) := by
  have read := readWord_storage (s := resetEntry k s) high low
  rw [takeReset_eq, read]
  rfl

/-- Settles O51: the one access is the read of the vector, with the registers drawn and the masks set before it. -/
theorem resetEffect : Obligations.ResetEffect := by
  intro k s
  obtain ⟨-, -, -, -, -, plain⟩ := takeReset_keeps k s
  refine ⟨?s, ?x, ?i, takeReset_runState k s, takeReset_irqInhibit k s,
    ⟨resetEntry k s, rfl, rfl, rfl, rfl, takeReset_eq k s⟩, fun noDevice => (plain noDevice).1,
    takeReset_pc_of_storage⟩
  all_goals
    rw [takeReset_ccr]
    rfl

/-! ### The step in RUN -/

/-- Where nothing inhibits, an execution has no inhibit to clear. -/
theorem step_of_execute_uninhibited {s : State} (event : nextEvent s = .execute) (noInhibit : s.irqInhibit = false) :
    step s = executeOne s := by
  have kept : s.setIrqInhibit false = s := by rw [← noInhibit]; rfl
  exact (step_of_nextEvent event).trans (congrArg executeOne kept)

/-- Settles O46, in the order of R423. -/
theorem stepInRun : Obligations.StepInRun := by
  intro s run
  refine ⟨fun k requested => step_of_nextEvent (nextEvent_of_requestedReset requested),
    fun noReset => ⟨fun asks unmasked => ?xirq, fun noXirq => ?others⟩⟩
  case xirq => exact step_of_nextEvent (nextEvent_run_xirq run noReset (xirqTaken_iff.2 ⟨asks, unmasked⟩))
  case others =>
    have noXirq := xirqTaken_eq_false_iff.2 noXirq
    refine ⟨fun inhibit => ?inhibited, fun noInhibit => ⟨fun l before after unmasked order asks first => ?irq,
      fun noIrq => ?execute⟩⟩
    case inhibited => exact step_of_nextEvent (nextEvent_run_inhibited run noReset noXirq inhibit)
    case irq =>
      have irq := irqTaken_eq_some unmasked order asks first
      exact step_of_nextEvent (nextEvent_run_irq run noReset noXirq noInhibit irq)
    case execute =>
      have noIrq := irqTaken_eq_none_iff.2 noIrq
      exact step_of_execute_uninhibited (nextEvent_run_execute run noReset noXirq noIrq) noInhibit

/-! ### WAIT -/

/-- Settles O47: the entry without stacking reads the vector and no more; what ends WAIT is R423's choice without the
inhibit. -/
theorem stepInWait : Obligations.StepInWait := by
  refine ⟨fun k s => ⟨?entry, fun high low => ?vector⟩,
    fun s wait noReset => ⟨fun asks unmasked => ?xirq, fun noXirq => ?others⟩⟩
  case entry =>
    rw [← trapMasks_eq_ite]
    exact enterHandler_onlyReads k s
  case vector => rw [enterHandler_of_storage high low]
  case xirq => exact step_of_nextEvent (nextEvent_wait_xirq wait noReset (xirqTaken_iff.2 ⟨asks, unmasked⟩))
  case others =>
    have noXirq := xirqTaken_eq_false_iff.2 noXirq
    refine ⟨fun l before after unmasked order asks first => ?irq, fun noIrq => ?idle⟩
    case irq =>
      exact step_of_nextEvent (nextEvent_wait_irq wait noReset noXirq (irqTaken_eq_some unmasked order asks first))
    case idle =>
      have event := nextEvent_wait_idle wait noReset noXirq (irqTaken_eq_none_iff.2 noIrq)
      rw [step_of_nextEvent event, perform, watchXirq_of_not_stop (by simp [wait])]

/-! ### STOP -/

theorem watchXirq_of_stop {s : State} (stop : s.runState = .stop) :
    watchXirq s = { s with xirqHeld := s.xirqHeld && s.pending.xirq } := by
  rw [watchXirq_eq, if_pos stop]

/-- Settles O48, in the order of the choice in STOP. -/
theorem stepInStop : Obligations.StepInStop := by
  intro s stop noReset
  refine ⟨fun asks unmasked => ?xirq, fun asks masked absent => ?edge, fun noEdge => ?others⟩
  case xirq => exact step_of_nextEvent (nextEvent_stop_xirq stop noReset (xirqTaken_iff.2 ⟨asks, unmasked⟩))
  case edge =>
    have noXirq := xirqTaken_eq_false_iff.2 (.inr masked)
    exact step_of_nextEvent (nextEvent_stop_edge stop noReset noXirq (xirqEdge_iff.2 ⟨asks, absent⟩))
  case others =>
    have noXirq := xirqTaken_eq_false_iff.2 (noEdge.imp_right And.left)
    have noEdge := xirqEdge_eq_false_iff.2 (noEdge.imp_right And.right)
    refine ⟨fun unmasked line asks => ?pin, fun noPin => ?idle⟩
    case pin =>
      have pin := irqPinTaken_iff.2 ⟨unmasked, line, asks⟩
      exact step_of_nextEvent (nextEvent_stop_irqPin stop noReset noXirq noEdge pin)
    case idle =>
      have event := nextEvent_stop_idle stop noReset noXirq noEdge (irqPinTaken_eq_false_iff.2 noPin)
      rw [step_of_nextEvent event, perform, watchXirq_of_stop stop]

section Stopped

variable {v : State} (stop : v.runState = .stop) (noReset : requestedReset v.resets = none)
include stop noReset

/-- D15: with X = 1 an edge of XIRQ ends STOP. -/
theorem step_stop_of_edge (masked : v.ccr.x = true) (asserted : v.pending.xirq = true)
    (absentBefore : v.xirqHeld = false) : step v = .next { v with runState := .run, xirqHeld := false } := by
  obtain ⟨-, edge, -⟩ := stepInStop v stop noReset
  rw [edge asserted masked absentBefore, ← absentBefore]

/-- D15: with X = I = 1 a level of XIRQ that STOP has found does not end it. -/
theorem step_stop_of_held (masked : v.ccr.x = true) (asserted : v.pending.xirq = true) (held : v.xirqHeld = true)
    (irqMasked : v.ccr.i = true) : step v = .next v := by
  obtain ⟨-, -, others⟩ := stepInStop v stop noReset
  obtain ⟨-, stays⟩ := others (.inr ⟨masked, held⟩)
  rw [stays (.inl irqMasked), asserted, Bool.and_true]

/-- D15: once XIRQ is absent at a boundary, the next request will be an edge. -/
theorem step_stop_of_absent (absent : v.pending.xirq = false) (irqMasked : v.ccr.i = true) :
    step v = .next { v with xirqHeld := false } := by
  obtain ⟨-, -, others⟩ := stepInStop v stop noReset
  obtain ⟨-, stays⟩ := others (.inl absent)
  rw [stays (.inl irqMasked), absent, Bool.and_false]

end Stopped

/-- Settles O49: a level recorded by STOP stays recorded until a boundary at which XIRQ is absent, and only a level
that is not recorded is an edge. -/
theorem stopEndsByXirqEdge : Obligations.StopEndsByXirqEdge := by
  intro s t l m enabled masked irqMasked noReset stopped asks awake
  rw [exec_stop_eq, if_neg (Bool.eq_false_iff.1 enabled)] at stopped
  obtain rfl := Host.Outcome.next.inj stopped
  refine ⟨fun asserted => ⟨?same, ?level, ?absent⟩, fun absent => ?edge⟩
  case same => exact step_stop_of_held rfl noReset masked asserted asserted irqMasked
  case level => exact step_stop_of_held rfl noReset masked rfl asserted irqMasked
  case absent =>
    exact ⟨_, step_stop_of_absent rfl noReset rfl irqMasked, rfl, step_stop_of_edge rfl noReset masked rfl rfl⟩
  case edge => exact step_stop_of_edge rfl noReset masked rfl absent

/-! ### The delay after CLI -/

/-- Settles O53: CLI that clears I sets the inhibit, and without it a pending line is taken. -/
theorem clearedMaskDelay : Obligations.ClearedMaskDelay := by
  intro s t u run masked xMasked noReset cleared _
  refine ⟨?execute, fun run' noReset' xMasked' unmasked noInhibit l line asks => ?taken⟩
  case execute =>
    obtain rfl := Host.Outcome.next.inj cleared
    have inhibit : (s.ccr.i || s.irqInhibit) = true := by rw [masked, Bool.true_or]
    exact nextEvent_run_inhibited run noReset (xirqTaken_eq_false_iff.2 (.inr xMasked)) inhibit
  case taken =>
    obtain ⟨e, first⟩ := exists_irqTaken unmasked line asks
    exact ⟨e, nextEvent_run_irq run' noReset' (xirqTaken_eq_false_iff.2 (.inr xMasked')) noInhibit first⟩

end Sys2Proof.Proofs
end

section
/-! Proofs. The instruction that a step fetches, the undefined opcodes, and the states that stay (30_encoding.md R101,
R102; 60_exceptions.md R423, R427, R437; 70_reset_and_hazards.md R470): from storage a fetch reads the opcode bytes and
as many operand bytes as their cell asks for. -/

namespace Sys2Proof.Proofs

open Sys2Proof.Machine

/-! ### Fetching code -/

/-- The opcode bytes that select an opcode of a page (30_encoding.md R101, R102). -/
inductive OpcodeBytes : Page → Byte → List Byte → Prop
  | page0 {op : Byte} (noPrebyte : prebyte op = none) : OpcodeBytes .page0 op [op]
  | prebyte {p : Page} {b0 : Byte} (op : Byte) (selects : prebyte b0 = some p) : OpcodeBytes p op [b0, op]

/-- From storage a byte is fetched as it stands, and PC moves to the code after it. -/
theorem fetch8_of_codeAt {s : State} {b : Byte} {rest : List Byte} (code : CodeAt s s.pc (b :: rest)) :
    fetch8 s = (b, s.setPC (s.pc + 1#16)) ∧ CodeAt (s.setPC (s.pc + 1#16)) (s.pc + 1#16) rest := by
  obtain ⟨storage, byte, more⟩ := code
  exact ⟨by rw [fetch8_storage storage, byte], more.setPC _⟩

theorem fetchOperands_of_codeAt {s : State} {p : Page} {op : Byte} {ops : List Byte} (code : CodeAt s s.pc ops)
    (count : operandBytes p op = ops.length) :
    fetchOperands p op s = (decodeOn p op ops, s.setPC (s.pc + BitVec.ofNat 16 ops.length)) := by
  rw [fetchOperands, count, fetchBytes_code code]

theorem add_one_add_ofNat (a : Word) (n : Nat) : a + 1#16 + BitVec.ofNat 16 n = a + BitVec.ofNat 16 (n + 1) := by
  rw [BitVec.add_assoc, BitVec.add_comm 1#16, ← BitVec.ofNat_add]

/-- R102: the fetch of opcode bytes and operand bytes that stand in storage. -/
theorem fetchInstr_of_codeAt {s : State} {p : Page} {op : Byte} {head ops : List Byte} (opcode : OpcodeBytes p op head)
    (count : operandBytes p op = ops.length) (code : CodeAt s s.pc (head ++ ops)) :
    fetchInstr s = (decodeOn p op ops, s.setPC (s.pc + BitVec.ofNat 16 (head ++ ops).length)) := by
  cases opcode with
  | page0 noPrebyte =>
    obtain ⟨first, code⟩ := fetch8_of_codeAt code
    simp only [fetchInstr, first, noPrebyte]
    rw [fetchOperands_of_codeAt code count]
    exact congrArg (fun pc => (decodeOn _ op ops, s.setPC pc)) (add_one_add_ofNat s.pc _)
  | prebyte op selects =>
    obtain ⟨first, code⟩ := fetch8_of_codeAt code
    obtain ⟨second, code⟩ := fetch8_of_codeAt code
    simp only [fetchInstr, first, selects, second]
    rw [fetchOperands_of_codeAt code count]
    exact congrArg (fun pc => (decodeOn p op ops, s.setPC pc))
      ((add_one_add_ofNat (s.pc + 1#16) _).trans (add_one_add_ofNat s.pc _))

theorem operandBytes_of_lookup {p : Page} {op : Byte} {r : Row} (defined : lookup p op = some r) :
    operandBytes p op = r.operands := by
  simp only [operandBytes, defined]

theorem operandBytes_of_lookup_none {p : Page} {op : Byte} (undefined : lookup p op = none) :
    operandBytes p op = 0 := by
  simp only [operandBytes, undefined]

/-- A cell that leaves no byte over takes just its operand bytes. -/
theorem operands_of_read_ok {r : Row} {ops : List Byte} {i : Instr} (made : r.read ops = .ok i []) :
    r.operands = ops.length := by
  match r, ops, made with
  | .op0 _, _, rfl => rfl
  | .op1 _, _ :: _, rfl => rfl
  | .op2 _, _ :: _ :: _, rfl => rfl
  | .op3 _, _ :: _ :: _ :: _, rfl => rfl

/-- A cell of the maps stands at the opcode bytes of its page. -/
theorem opcodeBytes_of_cellAt {head : List Byte} {r : Row} (cell : cellAt head = some r) :
    ∃ p op, OpcodeBytes p op head ∧ lookup p op = some r := by
  match head, cell with
  | [op], cell =>
    have defined : lookup .page0 op = some r := cell
    exact ⟨.page0, op, .page0 (prebyte_eq_none_of_lookup defined), defined⟩
  | [_, op], cell =>
    obtain ⟨p, selects, defined⟩ := Option.bind_eq_some_iff.mp cell
    exact ⟨p, op, .prebyte op selects, defined⟩

/-- R102: what decodes to an instruction is fetched as that instruction. -/
theorem fetchInstr_of_decode_ok {s : State} {bs : List Byte} {i : Instr} (code : CodeAt s s.pc bs)
    (decoded : decode bs = .ok i []) : fetchInstr s = (.ok i [], s.setPC (s.pc + BitVec.ofNat 16 bs.length)) := by
  obtain ⟨head, ops, r, rfl, cell, made⟩ := cellAt_of_decode_ok decoded
  obtain ⟨p, op, opcode, defined⟩ := opcodeBytes_of_cellAt cell
  have count := (operandBytes_of_lookup defined).trans (operands_of_read_ok made)
  rw [fetchInstr_of_codeAt opcode count code, decodeOn_of_lookup defined, made]

theorem executeOne_of_fetchInstr_ok {s t : State} {i : Instr} {rest : List Byte}
    (fetched : fetchInstr s = (.ok i rest, t)) : executeOne s = exec i t := by
  simp only [executeOne, fetched]

theorem executeOne_of_fetchInstr_undefinedOpcode {s t : State} {p : Page} {op : Byte}
    (fetched : fetchInstr s = (.undefinedOpcode p op, t)) : executeOne s = .next (raiseIllegalOpcode s.pc t) := by
  simp only [executeOne, fetched]

/-- Code stands where it stood as long as memory and its map are the same. -/
theorem codeAt_congr {s t : State} {a : Word} {bs : List Byte} (code : CodeAt s a bs) (mem : t.mem = s.mem)
    (map : t.memMap = s.memMap) : CodeAt t a bs := by
  rw [codeAt_iff_forall_zip] at code ⊢
  intro e stands
  obtain ⟨storage, byte⟩ := code e stands
  exact ⟨storage_congr storage map, by rw [mem, byte]⟩

/-- Settles O44: the fetch reads the instruction that the bytes decode to. -/
theorem stepRunsDecoded : Obligations.StepRunsDecoded := by
  intro s bs i event code decoded
  have code : CodeAt (s.setIrqInhibit false) s.pc bs := codeAt_congr code rfl rfl
  rw [step_of_nextEvent event, perform, executeOne_of_fetchInstr_ok (fetchInstr_of_decode_ok code decoded)]
  rfl

/-! ### Undefined opcodes -/

/-- R102, R117: opcode bytes that decode as an undefined opcode select an empty cell. -/
theorem opcodeBytes_of_decode_undefined {bs : List Byte} {p : Page} {op : Byte}
    (decoded : decode bs = .undefinedOpcode p op)
    (shape : bs = [op] ∨ ∃ pre, bs = [pre, op] ∧ prebyte pre = some p) :
    OpcodeBytes p op bs ∧ lookup p op = none := by
  rcases shape with rfl | ⟨pre, rfl, selects⟩
  · cases noPrebyte : prebyte op with
    | none =>
      rw [decode_page0 noPrebyte, decodeOn_eq_undefinedOpcode_iff] at decoded
      obtain ⟨undefined, rfl, -⟩ := decoded
      exact ⟨.page0 noPrebyte, undefined⟩
    | some q => simp [decode, noPrebyte] at decoded
  · rw [decode_of_prebyte selects, decodeOn_eq_undefinedOpcode_iff] at decoded
    obtain ⟨undefined, -⟩ := decoded
    exact ⟨.prebyte op selects, undefined⟩

/-- R427: no operand byte is fetched after an undefined opcode. -/
theorem fetchInstr_of_decode_undefined {s : State} {bs : List Byte} {p : Page} {op : Byte} (code : CodeAt s s.pc bs)
    (decoded : decode bs = .undefinedOpcode p op)
    (shape : bs = [op] ∨ ∃ pre, bs = [pre, op] ∧ prebyte pre = some p) :
    fetchInstr s = (.undefinedOpcode p op, s.setPC (s.pc + BitVec.ofNat 16 bs.length)) := by
  obtain ⟨opcode, undefined⟩ := opcodeBytes_of_decode_undefined decoded shape
  have fetched := fetchInstr_of_codeAt (s := s) (ops := []) opcode (operandBytes_of_lookup_none undefined)
    (by rwa [List.append_nil])
  rwa [decodeOn_eq_undefinedOpcode_iff.2 ⟨undefined, rfl, rfl⟩, List.append_nil] at fetched

/-- Settles O45: the fetch ends at the opcode, and the trap is all that follows. -/
theorem undefinedOpcodeTraps : Obligations.UndefinedOpcodeTraps := by
  intro s bs p op event code decoded shape
  have code : CodeAt (s.setIrqInhibit false) s.pc bs := codeAt_congr code rfl rfl
  have fetched := fetchInstr_of_decode_undefined code decoded shape
  obtain ⟨ret, stacked, raised⟩ := raiseIllegalOpcode_eq_trap s.pc
    { s with irqInhibit := false, pc := s.pc + BitVec.ofNat 16 bs.length }
  refine ⟨ret, stacked, ?_⟩
  rw [step_of_nextEvent event, perform, executeOne_of_fetchInstr_undefinedOpcode fetched, ← raised]
  rfl

/-! ### The states that stay -/

/-- R470: where a branch or a jump to itself stands at PC, and nothing is let through, a step changes nothing. -/
theorem step_of_selfLoop {s : State} (loop : SelfLoop s) : step s = .next s := by
  obtain ⟨run, noInhibit, ⟨noReset, noXirq, noIrq⟩, code⟩ := loop
  have event := nextEvent_run_execute run noReset noXirq noIrq
  have kept : { s with irqInhibit := false } = s := by rw [← noInhibit]
  rcases code with branch | jump
  · have back : s.pc + BitVec.ofNat 16 2 + sext16 0xFE#8 = s.pc :=
      (BitVec.add_assoc _ _ _).trans (BitVec.add_zero s.pc)
    calc step s
      _ = exec (.bra 0xFE#8) { s with irqInhibit := false, pc := s.pc + BitVec.ofNat 16 2 } :=
        stepRunsDecoded s _ _ event branch (decode_of_spells ⟨rfl, rfl⟩)
      _ = .next { s with irqInhibit := false, pc := s.pc + BitVec.ofNat 16 2 + sext16 0xFE#8 } := rfl
      _ = .next s := by rw [back, kept]
  · calc step s
      _ = exec (.jmp (.ext s.pc)) { s with irqInhibit := false, pc := s.pc + BitVec.ofNat 16 3 } :=
        stepRunsDecoded s _ _ event jump (decode_of_spells ⟨rfl, rfl⟩)
      _ = .next { s with irqInhibit := false } := rfl
      _ = .next s := by rw [kept]

/-- The record of XIRQ's level that a boundary makes in STOP does not change what is an edge. -/
theorem nextEvent_watchXirq (s : State) : nextEvent (watchXirq s) = nextEvent s := by
  by_cases stop : s.runState = .stop
  · have edge : xirqEdge (watchXirq s) = xirqEdge s := by
      rw [watchXirq_of_stop stop]
      cases asserted : s.pending.xirq <;> simp [xirqEdge, asserted]
    have taken : xirqTaken (watchXirq s) = xirqTaken s := by simp [xirqTaken]
    have pin : irqPinTaken (watchXirq s) = irqPinTaken s := by simp [irqPinTaken]
    simp only [nextEvent, watchXirq_resets, watchXirq_runState, stop, edge, taken, pin]
  · rw [watchXirq_of_not_stop stop]

/-- A second look at the same level records nothing new. -/
theorem watchXirq_watchXirq (s : State) : watchXirq (watchXirq s) = watchXirq s := by
  by_cases stop : s.runState = .stop
  · have stop' : (watchXirq s).runState = .stop := (watchXirq_runState s).trans stop
    rw [watchXirq_of_stop stop', watchXirq_of_stop stop, Bool.and_assoc, Bool.and_self]
  · rw [watchXirq_of_not_stop stop, watchXirq_of_not_stop stop]

/-- Settles O60: a self-loop executes its one instruction; elsewhere the record of XIRQ's level is all that may follow,
and it follows once. -/
theorem finalStatesStay : Obligations.FinalStatesStay := by
  intro s final t
  have watched : watchXirq s = t := watchXirq_eq s
  rw [← watched]
  rcases final with loop | ⟨notRun, event⟩
  · have ⟨run, _⟩ := loop
    rw [watchXirq_of_not_stop (by simp [run])]
    exact ⟨step_of_selfLoop loop, .inl loop, step_of_selfLoop loop⟩
  · have event' := (nextEvent_watchXirq s).trans event
    refine ⟨step_of_nextEvent event, .inr ⟨by rwa [watchXirq_runState], event'⟩, ?_⟩
    rw [step_of_nextEvent event', perform, watchXirq_watchXirq]

end Sys2Proof.Proofs
end
